-- ==== Sys2Proof/Word.lean ====
section
/-! DEFINITION. The byte, the one data unit of the block (spec 00_scope.md R10, 20_memory.md R56). -/

namespace Sys2Proof

/-- A byte: an unsigned 8-bit value 0..255, bit 0 the least significant (R10). -/
abbrev Byte := BitVec 8

end Sys2Proof
end

