-- ==== Sys2Proof/Config.lean ====
section
/-! DEFINITION. The parameters of a model instance (spec 00_scope.md R8). The fixed ones are constants; the ones the spec
leaves OPEN, and the order of the agents' steps, are constants without a body, so that nothing can be proved of their values. -/

namespace Sys2Proof

/-- One move of one agent (spec 20_memory.md R50 to R54; the input ports of R68; 70_reset_and_hazards.md R180). -/
inductive Move where
  /-- F is offered its step (R100). -/
  | foreground
  /-- T runs one tick (R146; port `tick`). -/
  | tick
  /-- E appends `Byte(b)` to `RXQ` (R52; port `rx`). -/
  | rxByte (b : Byte)
  /-- The inter-byte timer fires: E appends `Timeout` to `RXQ` (R52; port `rx_timeout`). -/
  | rxTimeout
  /-- E removes the head of `TXQ` and sends it (R53; port `tx`). -/
  | txDrain
  /-- E asserts reset (R180; port `reset`). -/
  | reset
  deriving DecidableEq, Repr, Inhabited

namespace Config

/-- `P_START`, the start marker (R8). -/
def startMarker : Byte := 0xAA

/-- `P_END`, the end marker (R8). -/
def endMarker : Byte := 0x55

/-- `P_MAX_LEN`, the largest legal `data_len` (R8, R73). -/
def maxLen : Nat := 10

/-- `P_DEFAULTS`, minutes (R8, R28). -/
def defaultMinutes : Byte := 2

/-- `P_DEFAULTS`, seconds (R8, R29). -/
def defaultSeconds : Byte := 30

/-- `P_DEFAULTS`, both scores (R8, R30, R31). -/
def defaultScore : Byte := 0

/-- `P_BYTE_TIMEOUT` (R8, D7): OPEN. `none` is `infinity`, the original firmware, where E never appends `Timeout` (R52);
`some n` is a finite timeout, on whose value nothing depends (R195). Assumption log 6. -/
opaque byteTimeout : Option Nat

/-- `P_SETLED_STATE` on the state bytes 2..255 (R8, R127, D11): OPEN. `none` is "no effect". Assumption log 5. -/
opaque setLedOther : Byte → Option Bool

/-- Which outcome label a SET_LED packet gets when its alliance byte AND its state byte are not acted on: R160 names a label
for each and orders them not. `true` is the alliance's label. A free value, of the model's trace only. Assumption log 17. -/
opaque setLedAllianceFirst : Byte → Byte → Bool

/-- `P_DIG_ACTIVE_LEVEL` (R8, D12): OPEN. The electrical level (`true` is high) that energizes a digit-select line. Log 8. -/
opaque digitActiveLevel : Bool

/-- `P_IND_ACTIVE_LEVEL` (R8, D12): OPEN. The electrical level (`true` is high) that turns an indicator on. Log 8. -/
opaque indicatorActiveLevel : Bool

/-- The order in which the agents move, and what E sends, where the state's agenda does not fix it (R51, R52, R165, D28): a
free value, the `n`-th stretch of moves between two moves that fairness asks for (R67; Machine/Schedule.lean). Log 1, log 4. -/
opaque stretch : Nat → List Move

end Config

end Sys2Proof
end

