-- ==== Sys2Proof/Syntax.lean ====
section
/-! DEFINITION. The instructions: the command packets (spec 30_encoding.md R70, R76). One constructor per row of
spec/opcode_table.json. `data` is `DATA[0..LEN-1]`; its length is `LEN`, every `LEN` 0..10 being an operand form of each
command (41_commands.md R120). -/

namespace Sys2Proof

inductive Instr where
  /-- UPDATE_SCORE, code 0x01 (R121): `[red, blue]`. -/
  | updateScore (data : List Byte)
  /-- UPDATE_TIMER, code 0x02 (R122): `[minutes, seconds]`. -/
  | updateTimer (data : List Byte)
  /-- START_MATCH, code 0x03 (R123). -/
  | startMatch (data : List Byte)
  /-- STOP_MATCH, code 0x04 (R124). -/
  | stopMatch (data : List Byte)
  /-- RESET_MATCH, code 0x05 (R125). -/
  | resetMatch (data : List Byte)
  /-- PING, code 0x06 (R126). -/
  | ping (data : List Byte)
  /-- SET_LED, code 0x07 (R127): `[alliance, state]`. -/
  | setLed (data : List Byte)
  /-- Every other code, 0x00 and 0x08..0xFF (R128). -/
  | unknown (code : Byte) (data : List Byte)
  deriving DecidableEq, Repr

end Sys2Proof
end

