-- ==== Sys2Proof/WellFormed.lean ====
section
/-! DEFINITION. Which terms of `Instr` are packets: at most ten data bytes (spec 30_encoding.md R73), and an unknown code is
none of the seven (R76, R79). -/

namespace Sys2Proof

/-- The length bound of R73: `LEN` is 0..10. -/
def lengthLegal (data : List Byte) : Bool := decide (data.length ≤ Config.maxLen)

/-- R76: 0x00 and 0x08..0xFF are the codes that select no command. -/
def codeUnknown (code : Byte) : Bool := code == 0 || decide (8 ≤ code.toNat)

/-- A term that some packet of R70 stands for. -/
def Instr.wellFormed : Instr → Bool
  | .updateScore data => lengthLegal data
  | .updateTimer data => lengthLegal data
  | .startMatch data => lengthLegal data
  | .stopMatch data => lengthLegal data
  | .resetMatch data => lengthLegal data
  | .ping data => lengthLegal data
  | .setLed data => lengthLegal data
  | .unknown code data => codeUnknown code && lengthLegal data

end Sys2Proof
end

