-- ==== Sys2Proof/Decode.lean ====
section
/-! DEFINITION. The packet decoder, total on any bytes and rejecting by name, and the encoder (spec 30_encoding.md R70 to R79). -/

namespace Sys2Proof

/-- The XOR fold of command, length and data bytes (R74). The markers are not covered. -/
def xorFold (cmd len : Byte) (data : List Byte) : Byte := data.foldl (fun acc d => acc ^^^ d) (cmd ^^^ len)

/-- Why bytes are no packet. The first failing check in the order start, length, end, checksum names it (40_framer.md R107). -/
inductive DecodeError where
  /-- The first byte is not `0xAA` (R71). -/
  | startMarker
  /-- `LEN` is 11..255 (R73). -/
  | length
  /-- The bytes end before the packet does: the framer would wait for more (40_framer.md R112). -/
  | truncated
  /-- The byte at offset `4+LEN` is not `0x55` (R72). -/
  | endMarker
  /-- The checksum byte is not the fold (R74). -/
  | checksum
  deriving DecidableEq, Repr

/-- The command map (R76, 41_commands.md R120): the command byte alone selects, every other value is an unknown command. -/
def decodeCommand (cmd : Byte) (data : List Byte) : Instr :=
  if cmd = 0x01 then .updateScore data
  else if cmd = 0x02 then .updateTimer data
  else if cmd = 0x03 then .startMatch data
  else if cmd = 0x04 then .stopMatch data
  else if cmd = 0x05 then .resetMatch data
  else if cmd = 0x06 then .ping data
  else if cmd = 0x07 then .setLed data
  else .unknown cmd data

/-- The checks after the length bound: `rest` begins at offset 3 (R70, R72, R74). -/
def decodeTail (cmd len : Byte) (rest : List Byte) : Except DecodeError (Instr × List Byte) :=
  match rest.drop len.toNat with
  | chk :: last :: tail =>
    if last ≠ Config.endMarker then .error .endMarker
    else if chk ≠ xorFold cmd len (rest.take len.toNat) then .error .checksum
    else .ok (decodeCommand cmd (rest.take len.toNat), tail)
  | _ => .error .truncated

/-- The packet at the head of a byte sequence, and what follows it (R70, R78). -/
def decode : List Byte → Except DecodeError (Instr × List Byte)
  | [] => .error .truncated
  | first :: rest =>
    if first ≠ Config.startMarker then .error .startMarker
    else
      match rest with
      | cmd :: len :: body =>
        if Config.maxLen < len.toNat then .error .length else decodeTail cmd len body
      | _ => .error .truncated

/-- The command byte of an instruction (R76). -/
def Instr.code : Instr → Byte
  | .updateScore _ => 0x01
  | .updateTimer _ => 0x02
  | .startMatch _ => 0x03
  | .stopMatch _ => 0x04
  | .resetMatch _ => 0x05
  | .ping _ => 0x06
  | .setLed _ => 0x07
  | .unknown code _ => code

/-- The data bytes of an instruction (R77). -/
def Instr.data : Instr → List Byte
  | .updateScore data => data
  | .updateTimer data => data
  | .startMatch data => data
  | .stopMatch data => data
  | .resetMatch data => data
  | .ping data => data
  | .setLed data => data
  | .unknown _ data => data

/-- The length byte of an instruction (R70): the number of its data bytes. -/
def Instr.lenByte (i : Instr) : Byte := BitVec.ofNat 8 i.data.length

/-- The checksum byte of an instruction (R74). -/
def Instr.checksum (i : Instr) : Byte := xorFold i.code i.lenByte i.data

/-- The packet of an instruction with a given checksum byte (R70, and R82's `.bad_chk`). -/
def encodeWith (i : Instr) (chk : Byte) : List Byte :=
  Config.startMarker :: i.code :: i.lenByte :: (i.data ++ [chk, Config.endMarker])

/-- The packet of an instruction (R70). -/
def encode (i : Instr) : List Byte := encodeWith i i.checksum

/-- Byte `k` of the bits an opcode-table row numbers: the row's match and mask apply to `CMD`, so byte 0 is `CMD`, byte 1 is
`LEN` and byte `2+k` is `DATA[k]`; bits at `nbits` and above are 0 (assumption log 2). -/
def tableByte (nbits w k : Nat) : Byte := BitVec.ofNat 8 ((w % 2 ^ nbits) >>> (8 * k))

/-- The data bytes of a table word. -/
def tableData (nbits w : Nat) : List Byte :=
  (List.range (tableByte nbits w 1).toNat).map fun k => tableByte nbits w (2 + k)

/-- The packet of a table word: the framing bytes, which no row's bits hold, around the word's bytes (R70, R74). -/
def tablePacket (nbits w : Nat) : List Byte :=
  let cmd := tableByte nbits w 0
  let len := tableByte nbits w 1
  let data := tableData nbits w
  Config.startMarker :: cmd :: len :: (data ++ [xorFold cmd len data, Config.endMarker])

/-- The instruction the decoder reads from a table word's packet. -/
def decodeTableWord (nbits w : Nat) : Option Instr :=
  match decode (tablePacket nbits w) with
  | .ok (i, []) => some i
  | _ => none

end Sys2Proof
end

