-- ==== Sys2Proof/Machine/Segments.lean ====
section
/-! DEFINITION. Digits, segment patterns and the display-buffer builder (spec 42_display.md R140 to R144). -/

namespace Sys2Proof.Machine

/-- `P_SEG_ROM` (R141, D3): the patterns of digits 0..9, bit 0 = segment a .. bit 6 = segment g, 1 lights. The values are the
spec's, which takes them from general knowledge: assumption log 7. -/
def segRom : Vector Byte 10 := #v[0x3F, 0x06, 0x5B, 0x4F, 0x66, 0x6D, 0x7D, 0x07, 0x7F, 0x6F]

/-- `tens(v) = v / 10` (R140). -/
def tens (v : Byte) : Nat := v.toNat / 10

/-- `units(v) = v mod 10` (R140). -/
def units (v : Byte) : Nat := v.toNat % 10

/-- The two patterns of a value 0..99; none above 99, where R142 asks the model to fault. -/
def twoDigits (rom : Vector Byte 10) (v : Byte) : Option (Byte × Byte) :=
  if h : v.toNat ≤ 99 then
    some (rom.get ⟨tens v, by unfold tens; omega⟩, rom.get ⟨units v, by unfold units; omega⟩)
  else none

/-- The builder over any segment table (R142, D3): the six entries in `DBUF` order. -/
def buildWith (rom : Vector Byte 10) (m s r : Byte) : Option (Vector Byte 6) :=
  match twoDigits rom m, twoDigits rom s, twoDigits rom r with
  | some dm, some ds, some dr => some #v[dm.1, dm.2, ds.1, ds.2, dr.1, dr.2]
  | _, _, _ => none

/-- `Build(m, s, r)` (R142) over the table of R141. -/
def build (m s r : Byte) : Option (Vector Byte 6) := buildWith segRom m s r

/-- `Decode(p)` (R143): the digit a pattern stands for; none on a byte that is no pattern of the table. -/
def decodeDigit (rom : Vector Byte 10) (p : Byte) : Option Nat := rom.toList.idxOf? p

/-- `Decode(p)*10 + Decode(q)` (R143). -/
def decodeValue (rom : Vector Byte 10) (p q : Byte) : Option Nat :=
  match decodeDigit rom p, decodeDigit rom q with
  | some a, some b => some (a * 10 + b)
  | _, _ => none

/-- The reset value of `DBUF` (R36, R181), `Build(2, 30, 0)`. -/
def resetBuffer : Vector Byte 6 := #v[0x3F, 0x5B, 0x4F, 0x3F, 0x3F, 0x3F]

/-- `onehot6(c)` (R146): the 6-bit value with only bit `c` set. -/
def onehot6 (c : Fin 6) : BitVec 6 := 1#6 <<< c.val

/-- `(c + 1) mod 6` (R146 action 4, R37). -/
def nextCursor (c : Fin 6) : Fin 6 := ⟨(c.val + 1) % 6, Nat.mod_lt _ (by decide)⟩

end Sys2Proof.Machine
end

