-- ==== Sys2Proof/Machine/State.lean ====
section
/-! DEFINITION. The state of the block (spec 10_state.md R20 to R47), its reset value (70_reset_and_hazards.md R181), and the
reasons a step can stop. Plain data; one home per register. -/

namespace Sys2Proof.Machine

/-- `FSTATE` (R21): the framer's state. The encodings 6 and 7 are unreachable and have no constructor (log 14). -/
inductive FState where
  | waitStart
  | readCmd
  | readLen
  | readData
  | readChk
  | readEnd
  deriving DecidableEq, Repr

/-- The 3-bit encoding of `FSTATE` (R21, D9). No output depends on it. -/
def FState.encoding : FState → BitVec 3
  | .waitStart => 0
  | .readCmd => 1
  | .readLen => 2
  | .readData => 3
  | .readChk => 4
  | .readEnd => 5

/-- `PHASE` (R32): the match phase. The encoding 3 is unreachable and has no constructor (log 14). -/
inductive Phase where
  | idle
  | active
  | paused
  deriving DecidableEq, Repr

/-- The 2-bit encoding of `PHASE` (R32, D9). -/
def Phase.encoding : Phase → BitVec 2
  | .idle => 0
  | .active => 1
  | .paused => 2

/-- A receive event of `RXQ` (R41). -/
inductive RxEvent where
  /-- `Byte(b)`, a byte the UART delivered. -/
  | byte (b : Byte)
  /-- `Timeout`, the inter-byte timeout. -/
  | timeout
  deriving DecidableEq, Repr

/-- The effect named in a `COMMIT` label (60_exceptions.md R160). -/
inductive CommitEffect where
  | applied
  | noopUnknown
  | noopShort
  | noopRange
  | noopAlliance
  | noopSetLedState
  deriving DecidableEq, Repr

/-- The outcome label of a step that ends a framer invocation (60_exceptions.md R160). -/
inductive Label where
  | discardNonstart
  | dropLength
  | dropEnd
  | dropChecksum
  | dropTimeout
  | commit (cmd : Byte) (effect : CommitEffect)
  deriving DecidableEq, Repr

/-- What the model's trace records. No register of the block holds it (R147, R160, D24; log 10). -/
inductive Observation where
  /-- A pin event: the levels of the segment and digit-select lines from here on (42_display.md R147). -/
  | pins (seg : BitVec 7) (sel : BitVec 6)
  /-- An outcome label (R160). -/
  | label (l : Label)
  /-- A byte E took from `TXQ` and sent on the outbound line (20_memory.md R53, R68 port `tx`). -/
  | sent (b : Byte)
  /-- A reset event happened here (R180): a mark of the model's, log 10. -/
  | reset
  deriving DecidableEq, Repr

/-- The machine. The first six groups are those of R20; the last three fields are the model's own (log 1, log 10). -/
structure State where
  /-- `FSTATE` (R21). -/
  fstate : FState
  /-- `CMD` (R22). -/
  cmd : Byte
  /-- `LEN` (R23). -/
  len : Byte
  /-- `DATA[0..9]` (R24). -/
  data : Vector Byte 10
  /-- `IDX`, a count 0..10 (R25). -/
  idx : Fin 11
  /-- `CHK` (R26). -/
  chk : Byte
  /-- `IND_DUE` (R27). -/
  indDue : Bool
  /-- `MINUTES` (R28). -/
  minutes : Byte
  /-- `SECONDS` (R29). -/
  seconds : Byte
  /-- `RED_SCORE` (R30). -/
  redScore : Byte
  /-- `BLUE_SCORE` (R31). -/
  blueScore : Byte
  /-- `PHASE` (R32). -/
  phase : Phase
  /-- `RED_FLAG` (R34). -/
  redFlag : Bool
  /-- `BLUE_FLAG` (R35). -/
  blueFlag : Bool
  /-- `DBUF[0..5]` (R36). -/
  dbuf : Vector Byte 6
  /-- `CURSOR`, 0..5 (R37). -/
  cursor : Fin 6
  /-- `SEG_OUT[6:0]` (R38). -/
  segOut : BitVec 7
  /-- `DIG_SEL[5:0]` (R39). -/
  digSel : BitVec 6
  /-- `IND_RED_OUT` (R40). -/
  indRedOut : Bool
  /-- `IND_BLUE_OUT` (R40). -/
  indBlueOut : Bool
  /-- `RXQ`, head first (R41). -/
  rxq : List RxEvent
  /-- `TXQ`, head first (R42). -/
  txq : List Byte
  /-- The model's trace, oldest first (log 10). -/
  trace : List Observation
  /-- The moves already fixed, next first (log 1). -/
  agenda : List Move
  /-- How many moves have been drawn from the free order (`fairMove Config.stretch`; log 1). -/
  freeMoves : Nat
  deriving DecidableEq, Repr

/-- The machine right after reset (R181). `CMD`, `LEN`, `DATA`, `IDX` and `CHK`, which the spec leaves unspecified, are zero
(log 3); the model's own fields are empty (log 1, log 10). -/
def State.reset : State where
  fstate := .waitStart
  cmd := 0
  len := 0
  data := #v[0, 0, 0, 0, 0, 0, 0, 0, 0, 0]
  idx := 0
  chk := 0
  indDue := false
  minutes := Config.defaultMinutes
  seconds := Config.defaultSeconds
  redScore := Config.defaultScore
  blueScore := Config.defaultScore
  phase := .idle
  redFlag := false
  blueFlag := false
  dbuf := resetBuffer
  cursor := 0
  segOut := 0
  digSel := 0
  indRedOut := false
  indBlueOut := false
  rxq := []
  txq := []
  trace := []
  agenda := []
  freeMoves := 0

/-- Why the machine stops. Each is raised only in states no run reaches (`Safety.lean`'s `State.Inv` excludes them; log 9). -/
inductive Fault where
  /-- `Build` is applied to a value above 99. Raised by the shared rebuild of UPDATE_SCORE, UPDATE_TIMER and RESET_MATCH, as
  R142 and 93_implementation_defined.md ask. Safe. -/
  | buildOutOfRange
  /-- A data byte arrives with `IDX = 10`, so `DATA[IDX]` does not exist (R24, R104). Raised by the `ReadData` byte step. Safe. -/
  | dataIndexOutOfRange
  /-- The end marker arrives with `LEN > 10`, so `DATA[0..LEN-1]` does not exist (R23, R24). Raised by the `ReadEnd` byte
  step. Safe. -/
  | lengthOutOfRange
  deriving DecidableEq, Repr

/-- Why an instruction has no meaning. No step of this model answers with one. -/
inductive Refusal where
  /-- An instruction of the opcode table without a meaning; raised by `exec`'s rejected arms, of which there are none. Safe. -/
  | notModelled (mnemonic : String)
  deriving DecidableEq, Repr

end Sys2Proof.Machine
end

