-- ==== Sys2Proof/Machine/Ops.lean ====
section
/-! DEFINITION. The named operations over the registers and queues (spec 00_scope.md R11, R12). The plain register writes come
first, then the primitives of R12 and the shared parts of the steps. The block has no trap and no exception entry
(60_exceptions.md R166, R167); `dropPacket` is what it does instead. -/

namespace Sys2Proof.Machine

/-! Register writes. -/

/-- `FSTATE <- f`. -/
def State.setFState (s : State) (f : FState) : State := { s with fstate := f }
/-- `CMD <- b`. -/
def State.setCmd (s : State) (b : Byte) : State := { s with cmd := b }
/-- `LEN <- b`. -/
def State.setLen (s : State) (b : Byte) : State := { s with len := b }
/-- `DATA[k] <- b`. -/
def State.setData (s : State) (k : Nat) (b : Byte) : State := { s with data := s.data.setIfInBounds k b }
/-- `IDX <- k`. -/
def State.setIdx (s : State) (k : Fin 11) : State := { s with idx := k }
/-- `CHK <- b`. -/
def State.setChk (s : State) (b : Byte) : State := { s with chk := b }
/-- `IND_DUE <- v`. -/
def State.setIndDue (s : State) (v : Bool) : State := { s with indDue := v }
/-- `RED_SCORE <- red; BLUE_SCORE <- blue`. -/
def State.setScores (s : State) (red blue : Byte) : State := { s with redScore := red, blueScore := blue }
/-- `MINUTES <- m; SECONDS <- sec`. -/
def State.setTimer (s : State) (m sec : Byte) : State := { s with minutes := m, seconds := sec }
/-- `PHASE <- p`. -/
def State.setPhase (s : State) (p : Phase) : State := { s with phase := p }
/-- `RED_FLAG <- r; BLUE_FLAG <- b`. -/
def State.setFlags (s : State) (r b : Bool) : State := { s with redFlag := r, blueFlag := b }
/-- `DBUF <- d`, all six entries at once (20_memory.md R58, R62). -/
def State.setDbuf (s : State) (d : Vector Byte 6) : State := { s with dbuf := d }
/-- `CURSOR <- c`. -/
def State.setCursor (s : State) (c : Fin 6) : State := { s with cursor := c }
/-- `SEG_OUT <- v`. -/
def State.setSegOut (s : State) (v : BitVec 7) : State := { s with segOut := v }
/-- `DIG_SEL <- v`. -/
def State.setDigSel (s : State) (v : BitVec 6) : State := { s with digSel := v }
/-- `IND_RED_OUT <- r; IND_BLUE_OUT <- b`. -/
def State.setIndicators (s : State) (r b : Bool) : State := { s with indRedOut := r, indBlueOut := b }
/-- `RXQ <- q`. -/
def State.setRxq (s : State) (q : List RxEvent) : State := { s with rxq := q }
/-- `TXQ <- q`. -/
def State.setTxq (s : State) (q : List Byte) : State := { s with txq := q }
/-- One more observation on the model's trace (log 10). -/
def State.record (s : State) (o : Observation) : State := { s with trace := s.trace ++ [o] }
/-- The model's own fields that say which agent moves (log 1). -/
def State.setMoves (s : State) (agenda : List Move) (drawn : Nat) : State := { s with agenda := agenda, freeMoves := drawn }

/-! The primitives of R12. -/

/-- `tx_emit` of each byte in order (R12, R42). -/
def State.emitTx (s : State) (bytes : List Byte) : State := s.setTxq (s.txq ++ bytes)

/-- E's append to the tail of `RXQ` (20_memory.md R52). -/
def State.appendRx (s : State) (e : RxEvent) : State := s.setRxq (s.rxq ++ [e])

/-- `pins(SEG_OUT, DIG_SEL)` (R12, R147): the driven levels become visible. -/
def State.pins (s : State) : State := s.record (.pins s.segOut s.digSel)

/-- The end of a framer invocation (10_state.md R27): `FSTATE <- WaitStart; IND_DUE <- 1`. -/
def State.endInvocation (s : State) : State := (s.setFState .waitStart).setIndDue true

/-- `drop(code)` (R12, R160, R166): the silent end of a packet attempt. It writes only `FSTATE` and `IND_DUE`, beside the
label of the model's trace; `CMD`, `LEN`, `DATA`, `IDX` and `CHK` keep what the attempt wrote (40_framer.md R113, log 13). -/
def State.dropPacket (s : State) (l : Label) : State := s.endInvocation.record (.label l)

/-- The label of a commit (R160). -/
def State.commitLabel (s : State) (cmd : Byte) (effect : CommitEffect) : State := s.record (.label (.commit cmd effect))

/-- The `DBUF` rebuild inside a commit: `DBUF <- Build(MINUTES, SECONDS, RED_SCORE)` (20_memory.md R58, 42_display.md R142).
On a value above 99 the model faults, as R142 asks. -/
def State.rebuildDisplay (s : State) : Host.Outcome State Fault Refusal :=
  match build s.minutes s.seconds s.redScore with
  | some d => .next (s.setDbuf d)
  | none => .fault .buildOutOfRange

/-- `DATA[0..LEN-1]`, what the checksum check and the dispatcher read (10_state.md R24). -/
def State.payload (s : State) : List Byte := s.data.toList.take s.len.toNat

/-- Data bytes written at `DATA[k]`, `DATA[k+1]`, … -/
def overwriteData : Nat → List Byte → Vector Byte 10 → Vector Byte 10
  | _, [], v => v
  | k, b :: bs, v => overwriteData (k + 1) bs (v.setIfInBounds k b)

/-- The PING acknowledgment (30_encoding.md R80). -/
def pingReply : List Byte := [0xAA, 0xCC, 0x55]

/-- The cause code of a label (60_exceptions.md R161); a commit that applied has none. No register records it. -/
def Label.causeCode : Label → Option Nat
  | .discardNonstart => some 1
  | .dropEnd => some 1
  | .dropLength => some 2
  | .dropChecksum => some 3
  | .commit _ .noopUnknown => some 4
  | .commit _ .noopShort => some 5
  | .dropTimeout => some 6
  | .commit _ .noopRange => some 7
  | .commit _ .noopAlliance => some 8
  | .commit _ .noopSetLedState => some 8
  | .commit _ .applied => none

/-- The electrical level of the select line of slot `k` (10_state.md R39, 00_scope.md R8): `P_DIG_ACTIVE_LEVEL` when bit `k`
of `DIG_SEL` is 1, its opposite when it is 0. -/
def State.digitLineLevel (s : State) (k : Fin 6) : Bool :=
  if s.digSel.getLsbD k.val then Config.digitActiveLevel else !Config.digitActiveLevel

/-- The electrical level of an indicator line whose logical value is `on` (10_state.md R40, 00_scope.md R8). -/
def indicatorLineLevel (on : Bool) : Bool :=
  if on then Config.indicatorActiveLevel else !Config.indicatorActiveLevel

end Sys2Proof.Machine
end

