-- ==== Sys2Proof/Machine/Driver.lean ====
section
/-! DEFINITION. The multiplex display driver (spec 42_display.md R146). -/

namespace Sys2Proof.Machine

/-- Bits `[6:0]` of a pattern (R146 action 2). -/
def segments (p : Byte) : BitVec 7 := p.setWidth 7

/-- R146 action 1: all select lines are de-energized. -/
def tickBlank (s : State) : State := (s.setDigSel 0).pins

/-- R146 action 2: the segment lines carry the entry of the cursor's slot. -/
def tickDrive (s : State) : State := (s.setSegOut (segments (s.dbuf.get s.cursor))).pins

/-- R146 action 3: the one select line of the cursor's slot is energized. -/
def tickSelect (s : State) : State := (s.setDigSel (onehot6 s.cursor)).pins

/-- R146 action 4: the cursor advances, wrapping to 0. -/
def tickAdvance (s : State) : State := s.setCursor (nextCursor s.cursor)

/-- The tick (R146): the four actions in the source's order, one atomic step of T (D6). -/
def tick (s : State) : State := tickAdvance (tickSelect (tickDrive (tickBlank s)))

end Sys2Proof.Machine
end

