-- ==== Sys2Proof/Machine/Operands.lean ====
section
/-! DEFINITION. How a command reads its operands (spec 30_encoding.md R77, 41_commands.md R120 to R127). -/

namespace Sys2Proof.Machine

/-- `d[0]` and `d[1]` of a command whose minimum `LEN` is 2 (R76, R77): none where the data is insufficient; the bytes at
index 2 and above are ignored. -/
def twoOperands : List Byte → Option (Byte × Byte)
  | first :: second :: _ => some (first, second)
  | _ => none

/-- The range check of UPDATE_SCORE (R121, D4): neither score is above 99. -/
def scoresInRange (red blue : Byte) : Bool := decide (red.toNat ≤ 99) && decide (blue.toNat ≤ 99)

/-- The range check of UPDATE_TIMER (R122, D4): minutes at most 99, seconds at most 59. -/
def timerInRange (m sec : Byte) : Bool := decide (m.toNat ≤ 99) && decide (sec.toNat ≤ 59)

/-- The two alliances (00_scope.md R14). -/
inductive Alliance where
  | red
  | blue
  deriving DecidableEq, Repr

/-- The alliance selector of SET_LED (R127): 1 = red, 2 = blue, any other value none. -/
def allianceOf (b : Byte) : Option Alliance :=
  if b = 1 then some .red else if b = 2 then some .blue else none

/-- `P_SETLED_STATE` (R8, R127, D11): `0 -> false`, `1 -> true`, 2..255 open (log 5). -/
def setLedState (b : Byte) : Option Bool :=
  if b = 0 then some false else if b = 1 then some true else Config.setLedOther b

/-- The label effect of a SET_LED whose alliance byte and state byte are both not acted on: open (log 17). -/
def setLedBothEffect (alliance state : Byte) : CommitEffect :=
  if Config.setLedAllianceFirst alliance state then .noopAlliance else .noopSetLedState

end Sys2Proof.Machine
end

