-- ==== Sys2Proof/Machine/Flags.lean ====
section
/-! DEFINITION. The flags: `MATCH_ACTIVE`, the indicator flags and the indicator outputs computed from them (spec 10_state.md
R33 to R35, 42_display.md R150). -/

namespace Sys2Proof.Machine

/-- `MATCH_ACTIVE = (PHASE == Active)` (R33). -/
def State.matchActive (s : State) : Bool := s.phase == .active

/-- `MATCH_ACTIVE and RED_FLAG` (R150). -/
def State.redLive (s : State) : Bool := s.matchActive && s.redFlag

/-- `MATCH_ACTIVE and BLUE_FLAG` (R150). -/
def State.blueLive (s : State) : Bool := s.matchActive && s.blueFlag

/-- SET_LED's write of exactly one of the two flags (R127). -/
def State.setAllianceFlag (s : State) (a : Alliance) (v : Bool) : State :=
  match a with
  | .red => s.setFlags v s.blueFlag
  | .blue => s.setFlags s.redFlag v

/-- `PHASE <- p; RED_FLAG <- v; BLUE_FLAG <- v`, the shared effect of START_MATCH, STOP_MATCH and RESET_MATCH (R123, R124, R125). -/
def State.enterPhase (s : State) (p : Phase) (v : Bool) : State := (s.setPhase p).setFlags v v

/-- The indicator update (42_display.md R150), one step of F. -/
def indicatorUpdate (s : State) : State := (s.setIndicators s.redLive s.blueLive).setIndDue false

end Sys2Proof.Machine
end

