-- ==== Sys2Proof/Machine/Link.lean ====
section
/-! DEFINITION. PING, SET_LED and the unknown codes (spec 41_commands.md R126, R127, R128). -/

namespace Sys2Proof.Machine

/-- PING (R126): the three reply bytes are appended to `TXQ`; its data is ignored. -/
def execPing (_data : List Byte) (s : State) : Host.Outcome State Fault Refusal :=
  .next ((s.emitTx pingReply).commitLabel 0x06 .applied)

/-- SET_LED (R127): at most one flag is written, and only where the alliance byte selects one and `P_SETLED_STATE` gives a
value. `PHASE` is not written. -/
def execSetLed (data : List Byte) (s : State) : Host.Outcome State Fault Refusal :=
  match twoOperands data with
  | none => .next (s.commitLabel 0x07 .noopShort)
  | some (alliance, state) =>
    match allianceOf alliance, setLedState state with
    | some a, some v => .next ((s.setAllianceFlag a v).commitLabel 0x07 .applied)
    | none, some _ => .next (s.commitLabel 0x07 .noopAlliance)
    | some _, none => .next (s.commitLabel 0x07 .noopSetLedState)
    | none, none => .next (s.commitLabel 0x07 (setLedBothEffect alliance state))

/-- An unknown code (R128): a commit that does nothing, not a drop. -/
def execUnknown (code : Byte) (_data : List Byte) (s : State) : Host.Outcome State Fault Refusal :=
  .next (s.commitLabel code .noopUnknown)

end Sys2Proof.Machine
end

