-- ==== Sys2Proof/Machine/Match.lean ====
section
/-! DEFINITION. The match-phase commands: START_MATCH, STOP_MATCH and RESET_MATCH (spec 41_commands.md R123, R124, R125, R129).
Each acts in every phase and ignores its data (R120). -/

namespace Sys2Proof.Machine

/-- START_MATCH (R123): `PHASE <- Active`, both flags 1. -/
def execStartMatch (_data : List Byte) (s : State) : Host.Outcome State Fault Refusal :=
  .next ((s.enterPhase .active true).commitLabel 0x03 .applied)

/-- STOP_MATCH (R124): `PHASE <- Paused`, both flags 0. -/
def execStopMatch (_data : List Byte) (s : State) : Host.Outcome State Fault Refusal :=
  .next ((s.enterPhase .paused false).commitLabel 0x04 .applied)

/-- RESET_MATCH (R125): the defaults, `PHASE <- Idle`, both flags 0, `DBUF <- Build(2, 30, 0)`. It touches neither the
framer, the driver registers, the output latches nor the queues (70_reset_and_hazards.md R182). -/
def execResetMatch (_data : List Byte) (s : State) : Host.Outcome State Fault Refusal :=
  ((((s.setTimer Config.defaultMinutes Config.defaultSeconds).setScores Config.defaultScore
    Config.defaultScore).enterPhase .idle false).commitLabel 0x05 .applied).rebuildDisplay

end Sys2Proof.Machine
end

