-- ==== Sys2Proof/Machine/Update.lean ====
section
/-! DEFINITION. The update commands: UPDATE_SCORE and UPDATE_TIMER (spec 41_commands.md R121, R122). -/

namespace Sys2Proof.Machine

/-- UPDATE_SCORE (R121): insufficient data and an out-of-range score are whole-command no-ops; else both scores are written
and the display is rebuilt. -/
def execUpdateScore (data : List Byte) (s : State) : Host.Outcome State Fault Refusal :=
  match twoOperands data with
  | none => .next (s.commitLabel 0x01 .noopShort)
  | some (red, blue) =>
    if scoresInRange red blue then ((s.setScores red blue).commitLabel 0x01 .applied).rebuildDisplay
    else .next (s.commitLabel 0x01 .noopRange)

/-- UPDATE_TIMER (R122): insufficient data and an out-of-range time are whole-command no-ops; else minutes and seconds are
written and the display is rebuilt. -/
def execUpdateTimer (data : List Byte) (s : State) : Host.Outcome State Fault Refusal :=
  match twoOperands data with
  | none => .next (s.commitLabel 0x02 .noopShort)
  | some (m, sec) =>
    if timerInRange m sec then ((s.setTimer m sec).commitLabel 0x02 .applied).rebuildDisplay
    else .next (s.commitLabel 0x02 .noopRange)

end Sys2Proof.Machine
end

