-- ==== Sys2Proof/Machine/Dispatch.lean ====
section
/-! DEFINITION. The dispatcher (spec 41_commands.md R120): one arm per command. -/

namespace Sys2Proof.Machine

def exec (i : Instr) (s : State) : Host.Outcome State Fault Refusal :=
  match i with
  | .updateScore data => Sys2Proof.Machine.execUpdateScore data s
  | .updateTimer data => Sys2Proof.Machine.execUpdateTimer data s
  | .startMatch data => Sys2Proof.Machine.execStartMatch data s
  | .stopMatch data => Sys2Proof.Machine.execStopMatch data s
  | .resetMatch data => Sys2Proof.Machine.execResetMatch data s
  | .ping data => Sys2Proof.Machine.execPing data s
  | .setLed data => Sys2Proof.Machine.execSetLed data s
  | .unknown code data => Sys2Proof.Machine.execUnknown code data s

end Sys2Proof.Machine
end

