-- ==== Sys2Proof/Machine/Framer.lean ====
section
/-! DEFINITION. The packet framer and the foreground (spec 40_framer.md R100 to R114). Each byte step is given the state from
which its event has been taken. -/

namespace Sys2Proof.Machine

/-- ByteStep in `WaitStart` (R101). -/
def waitStartStep (b : Byte) (s : State) : State :=
  if b = Config.startMarker then s.setFState .readCmd else s.dropPacket .discardNonstart

/-- ByteStep in `ReadCmd` (R102). -/
def readCmdStep (b : Byte) (s : State) : State := (s.setCmd b).setFState .readLen

/-- ByteStep in `ReadLen` (R103). -/
def readLenStep (b : Byte) (s : State) : State :=
  if Config.maxLen < b.toNat then (s.setLen b).dropPacket .dropLength
  else if b = 0 then ((s.setLen b).setIdx 0).setFState .readChk
  else ((s.setLen b).setIdx 0).setFState .readData

/-- ByteStep in `ReadData` (R104). `IDX = 10` here is in no run (log 9). -/
def readDataStep (b : Byte) (s : State) : Host.Outcome State Fault Refusal :=
  if s.idx.val < 10 then
    let t := (s.setData s.idx.val b).setIdx (s.idx + 1)
    .next (if t.idx.val = t.len.toNat then t.setFState .readChk else t)
  else .fault .dataIndexOutOfRange

/-- ByteStep in `ReadChk` (R105). -/
def readChkStep (b : Byte) (s : State) : State := (s.setChk b).setFState .readEnd

/-- ByteStep in `ReadEnd` (R106): the end marker, then the checksum, then the commit, all in one atomic step (R58). The
commit is `exec` of the decoded command at the state whose invocation has ended. `LEN > 10` here is in no run (log 9). -/
def readEndStep (b : Byte) (s : State) : Host.Outcome State Fault Refusal :=
  if b ≠ Config.endMarker then .next (s.dropPacket .dropEnd)
  else if Config.maxLen < s.len.toNat then .fault .lengthOutOfRange
  else if s.chk ≠ xorFold s.cmd s.len s.payload then .next (s.dropPacket .dropChecksum)
  else exec (decodeCommand s.cmd s.payload) s.endInvocation

/-- The byte step of each framer state (R100). -/
def byteStep (b : Byte) (s : State) : Host.Outcome State Fault Refusal :=
  match s.fstate with
  | .waitStart => .next (waitStartStep b s)
  | .readCmd => .next (readCmdStep b s)
  | .readLen => .next (readLenStep b s)
  | .readData => readDataStep b s
  | .readChk => .next (readChkStep b s)
  | .readEnd => readEndStep b s

/-- TimeoutStep (R109): abandons a packet in progress; in `WaitStart` it does nothing (D27). -/
def timeoutStep (s : State) : State :=
  if s.fstate = .waitStart then s else s.dropPacket .dropTimeout

/-- F's step (R100): the indicator update if one is due in `WaitStart`, else the head receive event, else nothing (F waits for
E; the state is unchanged, log 12). -/
def foreground (s : State) : Host.Outcome State Fault Refusal :=
  if s.fstate = .waitStart ∧ s.indDue = true then .next (indicatorUpdate s)
  else
    match s.rxq with
    | [] => .next s
    | .timeout :: rest => .next (timeoutStep (s.setRxq rest))
    | .byte b :: rest => byteStep b (s.setRxq rest)

/-- The framer as it stands when a packet's end marker is the next event: `CMD`, `LEN`, `DATA`, `IDX` and `CHK` as the byte
steps R101 to R105 leave them. Only `State.withFetchWord` uses it (log 2). -/
def State.holdPacket (s : State) (cmd len : Byte) (data : List Byte) : State :=
  ((((({ s with data := overwriteData 0 data s.data }).setCmd cmd).setLen len).setIdx
    (Fin.ofNat 11 len.toNat)).setChk (xorFold cmd len data)).setFState .readEnd

end Sys2Proof.Machine
end

