-- ==== Sys2Proof/Machine/Schedule.lean ====
section
/-! DEFINITION. The order of the agents' moves where the state's agenda fixes none (spec 20_memory.md R51), with the fairness
of R67: an endless row of free stretches, each closed by a move of T or of F in turn. -/

namespace Sys2Proof.Machine

/-- The move that closes stretch `n`: T's and F's in turn (R67 (i) and (ii); log 4). E closes none (R67 (iii)). -/
def closingMove (n : Nat) : Move := if n % 2 = 0 then .tick else .foreground

/-- The first `n` stretches, each with its closing move. -/
def fairPrefix (stretch : Nat → List Move) : Nat → List Move
  | 0 => []
  | n + 1 => fairPrefix stretch n ++ (stretch n ++ [closingMove n])

/-- The `n`-th move of the order that the stretches give. The first `n + 1` stretches hold more than `n` moves, so the move
is always there (`Laws/Schedule.lean`). -/
def fairMove (stretch : Nat → List Move) (n : Nat) : Move := (fairPrefix stretch (n + 1)).getD n .tick

end Sys2Proof.Machine
end

