-- ==== Sys2Proof/Machine/Environment.lean ====
section
/-! DEFINITION. The environment's moves and the step of each agent (spec 20_memory.md R50 to R54, 70_reset_and_hazards.md R180). -/

namespace Sys2Proof.Machine

/-- The inter-byte timer's event (R52): with `P_BYTE_TIMEOUT = infinity` it never comes (log 6). -/
def rxTimeoutEvent (s : State) : State :=
  match Config.byteTimeout with
  | none => s
  | some _ => s.appendRx .timeout

/-- E takes the head of `TXQ` and sends it (R53); with `TXQ` empty there is nothing to take (log 12). -/
def txDrainStep (s : State) : State :=
  match s.txq with
  | [] => s
  | b :: rest => (s.setTxq rest).record (.sent b)

/-- The reset event (R180): every register and both queues take their reset values (R181). The model's trace goes on, with a
mark, and the moves to come are not the block's to reset (log 11). -/
def resetEvent (s : State) : State :=
  { State.reset with trace := s.trace ++ [.reset], agenda := s.agenda, freeMoves := s.freeMoves }

/-- The step of the agent that moves (R51). -/
def runMove (m : Move) (s : State) : Host.Outcome State Fault Refusal :=
  match m with
  | .foreground => foreground s
  | .tick => .next (tick s)
  | .rxByte b => .next (s.appendRx (.byte b))
  | .rxTimeout => .next (rxTimeoutEvent s)
  | .txDrain => .next (txDrainStep s)
  | .reset => .next (resetEvent s)

/-- The move that comes next: the head of the agenda, else the next one of the free, fair order (R51, R67; log 1, log 4). -/
def State.nextMove (s : State) : Move :=
  match s.agenda with
  | m :: _ => m
  | [] => fairMove Config.stretch s.freeMoves

/-- The state with that move used up. -/
def State.afterMove (s : State) : State :=
  match s.agenda with
  | _ :: rest => s.setMoves rest s.freeMoves
  | [] => s.setMoves [] (s.freeMoves + 1)

end Sys2Proof.Machine
end

