-- ==== Sys2Proof/Machine/Step.lean ====
section
/-! DEFINITION. One step of the machine: one atomic transition of one agent (spec 20_memory.md R51), and the placing of an
instruction where the next step runs it. -/

namespace Sys2Proof.Machine

/-- One step: the agent that moves next takes its step (R51). -/
def step (s : State) : Host.Outcome State Fault Refusal := runMove s.nextMove s.afterMove

/-- `s` with the packet of a table word one event short of its commit, F moving next, so that the next step takes the end
marker and commits it (log 2). A word whose `LEN` is above 10 has no packet: there the next step reads that `LEN` and drops
the attempt (R103). -/
def State.withFetchWord (s : State) (nbits w : Nat) : State :=
  let cmd := tableByte nbits w 0
  let len := tableByte nbits w 1
  if Config.maxLen < len.toNat then
    { (s.setCmd cmd).setFState .readLen with rxq := .byte len :: s.rxq, agenda := .foreground :: s.agenda }
  else
    { s.holdPacket cmd len (tableData nbits w) with
      rxq := .byte Config.endMarker :: s.rxq, agenda := .foreground :: s.agenda }

end Sys2Proof.Machine
end

