-- ==== Sys2Proof/Safety.lean ====
section
/-! DEFINITION. What counts as a sound state, and the notions the statements are made with. -/

namespace Sys2Proof.Machine

/-- R44: the match-state values are in their ranges. -/
abbrev State.rangeOk (s : State) : Prop :=
  s.minutes.toNat ≤ 99 ∧ s.seconds.toNat ≤ 59 ∧ s.redScore.toNat ≤ 99 ∧ s.blueScore.toNat ≤ 99

/-- R45: `DBUF = Build(MINUTES, SECONDS, RED_SCORE)`. -/
abbrev State.bufferOk (s : State) : Prop := build s.minutes s.seconds s.redScore = some s.dbuf

/-- R46: at most one select line is energized. -/
abbrev selectOk (sel : BitVec 6) : Prop := sel = 0 ∨ ∃ k : Fin 6, sel = onehot6 k

/-- R46 of one observation: a pin event shows at most one energized select line. -/
def Observation.selectOk : Observation → Bool
  | .pins _ sel => decide (Sys2Proof.Machine.selectOk sel)
  | .label _ => true
  | .sent _ => true
  | .reset => true

/-- What the framer's scratch registers hold while a packet is in progress (R23 to R25, R103, R104): in `ReadData` fewer than
`LEN <= 10` bytes have come; in `ReadChk` and `ReadEnd` all have. -/
abbrev State.framerOk (s : State) : Prop :=
  (s.fstate = .readData → s.len.toNat ≤ 10 ∧ s.idx.val < s.len.toNat) ∧
  (s.fstate = .readChk ∨ s.fstate = .readEnd → s.len.toNat ≤ 10 ∧ s.idx.val = s.len.toNat)

/-- R151: unless an indicator update is due, the outputs are what it would compute; one is due only in `WaitStart` (R27, R100). -/
abbrev State.indicatorOk (s : State) : Prop :=
  (s.indDue = false → s.indRedOut = s.redLive ∧ s.indBlueOut = s.blueLive) ∧
  (s.fstate ≠ .waitStart → s.indDue = false)

/-- The invariant of the block: R44, R45, R46 (registers and pin events), the framer's bounds and R151. -/
structure State.Inv (s : State) : Prop where
  range : s.rangeOk
  buffer : s.bufferOk
  select : selectOk s.digSel
  pinEvents : ∀ o ∈ s.trace, o.selectOk = true
  framer : s.framerOk
  indicator : s.indicatorOk

/-- The instruction that the next step commits (R106, R120): F moves next, in `ReadEnd`, and takes an end marker that
completes a packet whose length and checksum are right. -/
def State.committing (s : State) : Option Instr :=
  if s.nextMove = .foreground ∧ s.fstate = .readEnd ∧ s.rxq.head? = some (.byte Config.endMarker) ∧
      s.len.toNat ≤ Config.maxLen ∧ s.chk = xorFold s.cmd s.len s.payload then
    some (decodeCommand s.cmd s.payload)
  else none

/-- F has an enabled step (40_framer.md R100): an indicator update is due in `WaitStart`, or there is an event to take. -/
abbrev State.foregroundEnabled (s : State) : Prop := (s.fstate = .waitStart ∧ s.indDue = true) ∨ s.rxq ≠ []

/-- A pin event in which the select line of slot `k` is energized (R147, R149). -/
def Observation.energizes (k : Fin 6) : Observation → Bool
  | .pins _ sel => sel.getLsbD k.val
  | .label _ => false
  | .sent _ => false
  | .reset => false

/-- A pin event. -/
def Observation.isPins : Observation → Bool
  | .pins _ _ => true
  | .label _ => false
  | .sent _ => false
  | .reset => false

/-- What the foreground and the environment can see of a state: all but T's registers, T's pin events and the moves to come (R171). -/
def State.withoutDriver (s : State) : State :=
  { s with cursor := 0, segOut := 0, digSel := 0, trace := s.trace.filter (fun o => !o.isPins), agenda := [] }

/-- R67 (i) and (ii) of an order of moves: T moves again and again, and so does F. A turn of F without an enabled step changes
nothing (log 12), so this is what (ii) asks: an F step that stays enabled is taken at F's next turn. -/
def FairOrder (order : Nat → Move) : Prop :=
  (∀ n, ∃ k, n ≤ k ∧ order k = .tick) ∧ (∀ n, ∃ k, n ≤ k ∧ order k = .foreground)

/-- Two states that differ at most in scratch registers that the framer will write before it reads them (R113). -/
structure SameButScratch (s t : State) : Prop where
  rest : t = { s with cmd := t.cmd, len := t.len, data := t.data, idx := t.idx, chk := t.chk }
  cmd : s.fstate ≠ .waitStart → s.fstate ≠ .readCmd → t.cmd = s.cmd
  len : s.fstate = .readData ∨ s.fstate = .readChk ∨ s.fstate = .readEnd → t.len = s.len
  idx : s.fstate = .readData → t.idx = s.idx ∧ t.data.toList.take s.idx.val = s.data.toList.take s.idx.val
  data : s.fstate = .readChk ∨ s.fstate = .readEnd → t.payload = s.payload
  chk : s.fstate = .readEnd → t.chk = s.chk

end Sys2Proof.Machine
end

