-- ==== Sys2Proof/Certificates/Slice0/Obligations.lean ====
section
/-! DEFINITION. The statements for the provers. In a statement about one command or one step, the next state is written as an
update of the state before it: every register that the update does not name is unchanged. The block has no addressable memory
(spec 20_memory.md R57), so a frame over the registers and queues is the whole frame. The model's trace (log 10) carries the
labels and pin events; where a statement is not about them, the trace after is existentially quantified. -/

open Sys2Proof Sys2Proof.Machine

/-! ## The commands (41_commands.md) -/

/-- R121, whole: the no-op on insufficient data, the whole-command rejection above 99, and the effect. Every `data` falls
under exactly one clause. The two premises are R44's ranges of the values the display build reads; without them R142 makes the
build fault (`BuildIsTheDigitTableOrFaults`). -/
def Obligations.UpdateScoreEffect : Prop :=
  ∀ (data : List Byte) (s : State), s.minutes.toNat ≤ 99 → s.seconds.toNat ≤ 99 →
    (data.length < 2 → ∃ tr, exec (.updateScore data) s = .next { s with trace := tr }) ∧
    (∀ red blue rest, data = red :: blue :: rest →
      (99 < red.toNat ∨ 99 < blue.toNat → ∃ tr, exec (.updateScore data) s = .next { s with trace := tr }) ∧
      (red.toNat ≤ 99 → blue.toNat ≤ 99 → ∃ d tr, build s.minutes s.seconds red = some d ∧
        exec (.updateScore data) s = .next { s with redScore := red, blueScore := blue, dbuf := d, trace := tr }))

/-- R122, whole, in the form of `UpdateScoreEffect`: minutes above 99 or seconds above 59 reject the whole command. -/
def Obligations.UpdateTimerEffect : Prop :=
  ∀ (data : List Byte) (s : State), s.redScore.toNat ≤ 99 →
    (data.length < 2 → ∃ tr, exec (.updateTimer data) s = .next { s with trace := tr }) ∧
    (∀ m sec rest, data = m :: sec :: rest →
      (99 < m.toNat ∨ 59 < sec.toNat → ∃ tr, exec (.updateTimer data) s = .next { s with trace := tr }) ∧
      (m.toNat ≤ 99 → sec.toNat ≤ 59 → ∃ d tr, build m sec s.redScore = some d ∧
        exec (.updateTimer data) s = .next { s with minutes := m, seconds := sec, dbuf := d, trace := tr }))

/-- R123: in every phase and with any data, `PHASE = Active` and both flags 1, and nothing else. -/
def Obligations.StartMatchEffect : Prop :=
  ∀ (data : List Byte) (s : State), ∃ tr, exec (.startMatch data) s =
    .next { s with phase := .active, redFlag := true, blueFlag := true, trace := tr }

/-- R124: in every phase and with any data, `PHASE = Paused` and both flags 0, and nothing else. -/
def Obligations.StopMatchEffect : Prop :=
  ∀ (data : List Byte) (s : State), ∃ tr, exec (.stopMatch data) s =
    .next { s with phase := .paused, redFlag := false, blueFlag := false, trace := tr }

/-- R125: the defaults, `Idle`, flags 0 and `DBUF = Build(2, 30, 0)`, and nothing else: not the framer, the driver, the
output latches or the queues. -/
def Obligations.ResetMatchEffect : Prop :=
  ∃ d, build 2 30 0 = some d ∧ ∀ (data : List Byte) (s : State), ∃ tr, exec (.resetMatch data) s =
    .next { s with minutes := 2, seconds := 30, redScore := 0, blueScore := 0, phase := .idle, redFlag := false,
                   blueFlag := false, dbuf := d, trace := tr }

/-- R126: `AA CC 55` is appended to `TXQ` in this order, whatever the data; nothing else changes. -/
def Obligations.PingEffect : Prop :=
  ∀ (data : List Byte) (s : State), ∃ tr, exec (.ping data) s =
    .next { s with txq := s.txq ++ [0xAA, 0xCC, 0x55], trace := tr }

/-- R127: insufficient data and a bad alliance byte are no-ops; else the selected flag, and only it, takes the value that
`P_SETLED_STATE` gives (0 gives false, 1 gives true, 2..255 whatever the open parameter gives, `none` being no effect). -/
def Obligations.SetLedEffect : Prop :=
  setLedState 0 = some false ∧ setLedState 1 = some true ∧
  ∀ (data : List Byte) (s : State),
    (data.length < 2 → ∃ tr, exec (.setLed data) s = .next { s with trace := tr }) ∧
    (∀ alliance state rest, data = alliance :: state :: rest →
      (alliance ≠ 1 → alliance ≠ 2 → ∃ tr, exec (.setLed data) s = .next { s with trace := tr }) ∧
      (setLedState state = none → ∃ tr, exec (.setLed data) s = .next { s with trace := tr }) ∧
      (∀ v, setLedState state = some v → alliance = 1 →
        ∃ tr, exec (.setLed data) s = .next { s with redFlag := v, trace := tr }) ∧
      (∀ v, setLedState state = some v → alliance = 2 →
        ∃ tr, exec (.setLed data) s = .next { s with blueFlag := v, trace := tr }))

/-- 41_commands.md, the rule of the unknown command: a code that is none of the seven decodes to itself and its commit changes
nothing. The label, by which the model tells this commit from a drop, is the spec's model-only outcome label (D24, log 10). -/
def Obligations.UnknownCodeCommitsWithoutEffect : Prop :=
  ∀ (code : Byte) (data : List Byte) (s : State), code = 0 ∨ 8 ≤ code.toNat →
    decodeCommand code data = .unknown code data ∧
    exec (.unknown code data) s = .next { s with trace := s.trace ++ [.label (.commit code .noopUnknown)] }

/-- 60_exceptions.md, outcome labels (D24, the model's trace: log 10): a commit leaves exactly one label, `COMMIT` with the
command's code and the effect its rule names, each effect in both directions. Where both bytes of a SET_LED are not acted on,
either of its two labels may stand (log 17). With any label but `APPLIED` nothing else changed. -/
def Obligations.CommitLabelNamesTheEffect : Prop :=
  ∀ (i : Instr) (s t : State), exec i s = .next t →
    ∃ e, t.trace = s.trace ++ [.label (.commit i.code e)] ∧
      (e = .noopUnknown ↔ ∃ c d, i = .unknown c d) ∧
      (e = .noopShort ↔ i.data.length < 2 ∧ ((∃ d, i = .updateScore d) ∨ (∃ d, i = .updateTimer d) ∨ ∃ d, i = .setLed d)) ∧
      (e = .noopRange ↔
        (∃ red blue rest, i = .updateScore (red :: blue :: rest) ∧ (99 < red.toNat ∨ 99 < blue.toNat)) ∨
        (∃ m sec rest, i = .updateTimer (m :: sec :: rest) ∧ (99 < m.toNat ∨ 59 < sec.toNat))) ∧
      (e = .noopAlliance → ∃ alliance state rest, i = .setLed (alliance :: state :: rest) ∧ alliance ≠ 1 ∧ alliance ≠ 2) ∧
      (e = .noopSetLedState → ∃ alliance state rest, i = .setLed (alliance :: state :: rest) ∧ setLedState state = none) ∧
      (∀ alliance state rest, i = .setLed (alliance :: state :: rest) →
        (alliance ≠ 1 → alliance ≠ 2 → setLedState state ≠ none → e = .noopAlliance) ∧
        (alliance = 1 ∨ alliance = 2 → setLedState state = none → e = .noopSetLedState) ∧
        (alliance ≠ 1 → alliance ≠ 2 → setLedState state = none → e = .noopAlliance ∨ e = .noopSetLedState)) ∧
      (e = .applied ↔
        (∃ red blue rest, i = .updateScore (red :: blue :: rest) ∧ red.toNat ≤ 99 ∧ blue.toNat ≤ 99) ∨
        (∃ m sec rest, i = .updateTimer (m :: sec :: rest) ∧ m.toNat ≤ 99 ∧ sec.toNat ≤ 59) ∨
        (∃ d, i = .startMatch d ∨ i = .stopMatch d ∨ i = .resetMatch d ∨ i = .ping d) ∨
        (∃ alliance state rest, i = .setLed (alliance :: state :: rest) ∧ (alliance = 1 ∨ alliance = 2) ∧
          setLedState state ≠ none)) ∧
      (e ≠ .applied → t = { s with trace := t.trace })

/-- The phase table of 41_commands.md (its "Match-phase state machine", which the spec marks derived): the next phase depends
only on the command, from every phase. -/
def Obligations.PhaseFollowsTheTable : Prop :=
  ∀ (i : Instr) (s t : State), exec i s = .next t →
    t.phase = match i with
      | .startMatch _ => .active
      | .stopMatch _ => .paused
      | .resetMatch _ => .idle
      | .updateScore _ => s.phase
      | .updateTimer _ => s.phase
      | .ping _ => s.phase
      | .setLed _ => s.phase
      | .unknown _ _ => s.phase

/-- 41_commands.md, phase independence: a command that does not write `PHASE` does in any other phase what it does in this
one. -/
def Obligations.EffectIndependentOfPhase : Prop :=
  ∀ (i : Instr) (p : Phase) (s t : State),
    (∀ d, i ≠ .startMatch d) → (∀ d, i ≠ .stopMatch d) → (∀ d, i ≠ .resetMatch d) →
    exec i s = .next t → exec i { s with phase := p } = .next { t with phase := p }

/-- 70_reset_and_hazards.md, "every state-changing command is idempotent": a command other than PING, sent again, changes
nothing more. -/
def Obligations.RepeatedCommandChangesNothingMore : Prop :=
  ∀ (i : Instr) (s t : State), (∀ d, i ≠ .ping d) → exec i s = .next t →
    ∃ tr, exec i t = .next { t with trace := tr }

/-! ## The display builder (42_display.md) -/

/-- R142, whole, over the table of R141: on values 0..99 the six patterns of the tens and units digits in `DBUF` order; on any
value above 99 no buffer, and a commit that would need one faults. -/
def Obligations.BuildIsTheDigitTableOrFaults : Prop :=
  segRom.toList = [0x3F, 0x06, 0x5B, 0x4F, 0x66, 0x6D, 0x7D, 0x07, 0x7F, 0x6F] ∧
  (∀ m s r : Byte, m.toNat ≤ 99 → s.toNat ≤ 99 → r.toNat ≤ 99 → ∃ d, build m s r = some d ∧
    d.toList.map some = [segRom.toList[m.toNat / 10]?, segRom.toList[m.toNat % 10]?, segRom.toList[s.toNat / 10]?,
      segRom.toList[s.toNat % 10]?, segRom.toList[r.toNat / 10]?, segRom.toList[r.toNat % 10]?]) ∧
  (∀ m s r : Byte, 99 < m.toNat ∨ 99 < s.toNat ∨ 99 < r.toNat → build m s r = none) ∧
  (∀ (red blue : Byte) (rest : List Byte) (s : State), 99 < s.minutes.toNat ∨ 99 < s.seconds.toNat → red.toNat ≤ 99 →
    blue.toNat ≤ 99 → exec (.updateScore (red :: blue :: rest)) s = .fault .buildOutOfRange) ∧
  (∀ (m sec : Byte) (rest : List Byte) (s : State), 99 < s.redScore.toNat → m.toNat ≤ 99 → sec.toNat ≤ 59 →
    exec (.updateTimer (m :: sec :: rest)) s = .fault .buildOutOfRange)

/-- 42_display.md, the round trip: over ANY segment table of ten pairwise distinct patterns, decoding the built buffer gives
back minutes, seconds and red score. -/
def Obligations.BuiltBufferDecodesToItsValues : Prop :=
  ∀ (rom : Vector Byte 10) (m s r : Byte) (d : Vector Byte 6), rom.toList.Nodup → buildWith rom m s r = some d →
    decodeValue rom (d.get 0) (d.get 1) = some m.toNat ∧
    decodeValue rom (d.get 2) (d.get 3) = some s.toNat ∧
    decodeValue rom (d.get 4) (d.get 5) = some r.toNat

/-- 10_state.md, display buffer: in a state with the invariant every entry of `DBUF` is one of the ten patterns, with bit 7 zero. -/
def Obligations.BufferHoldsOnlyPatterns : Prop :=
  ∀ s : State, s.Inv → ∀ k : Fin 6, s.dbuf.get k ∈ segRom.toList ∧ (s.dbuf.get k).getLsbD 7 = false

/-! ## Encoding (30_encoding.md) -/

/-- Decode and encode agree: the packet of every well-formed instruction decodes to it, whatever follows. -/
def Obligations.DecodeOfEncodeIsTheInstr : Prop :=
  ∀ (i : Instr) (rest : List Byte), i.wellFormed = true → decode (encode i ++ rest) = .ok (i, rest)

/-- The other direction: whatever the decoder accepts is the packet of a well-formed instruction, byte for byte. -/
def Obligations.AcceptedBytesAreTheEncoding : Prop :=
  ∀ (bytes rest : List Byte) (i : Instr), decode bytes = .ok (i, rest) → i.wellFormed = true ∧ bytes = encode i ++ rest

/-- The canonical encodings of 30_encoding.md decode to the commands they stand for. -/
def Obligations.CanonicalPacketsDecode : Prop :=
  decode [0xAA, 0x01, 0x02, 0x32, 0x14, 0x25, 0x55] = .ok (.updateScore [50, 20], []) ∧
  decode [0xAA, 0x02, 0x02, 0x01, 0x2D, 0x2C, 0x55] = .ok (.updateTimer [1, 45], []) ∧
  decode [0xAA, 0x03, 0x00, 0x03, 0x55] = .ok (.startMatch [], []) ∧
  decode [0xAA, 0x04, 0x00, 0x04, 0x55] = .ok (.stopMatch [], []) ∧
  decode [0xAA, 0x05, 0x00, 0x05, 0x55] = .ok (.resetMatch [], []) ∧
  decode [0xAA, 0x06, 0x00, 0x06, 0x55] = .ok (.ping [], []) ∧
  decode [0xAA, 0x07, 0x02, 0x02, 0x00, 0x07, 0x55] = .ok (.setLed [2, 0], []) ∧
  decode [0xAA, 0x08, 0x00, 0x08, 0x55] = .ok (.unknown 8 [], [])

/-- A packet that is right but for its checksum byte is rejected for its checksum, whatever the wrong byte is. -/
def Obligations.WrongChecksumRejected : Prop :=
  ∀ (i : Instr) (chk : Byte) (rest : List Byte), i.wellFormed = true → chk ≠ i.checksum →
    decode (encodeWith i chk ++ rest) = .error .checksum

/-- An error in one covered byte that leaves the field boundaries in place (the command byte, or one data byte) is rejected
for the checksum, whatever the wrong byte is. -/
def Obligations.SingleByteErrorRejected : Prop :=
  ∀ (i : Instr) (rest : List Byte), i.wellFormed = true →
    (∀ c : Byte, c ≠ i.code →
      decode (0xAA :: c :: i.lenByte :: (i.data ++ [i.checksum, 0x55]) ++ rest) = .error .checksum) ∧
    (∀ (k : Nat) (b : Byte) (h : k < i.data.length), b ≠ i.data[k] →
      decode (0xAA :: i.code :: i.lenByte :: (i.data.set k b ++ [i.checksum, 0x55]) ++ rest) = .error .checksum)

/-- Reordering data bytes keeps the fold (so the check does not protect byte order). -/
def Obligations.ChecksumIgnoresDataOrder : Prop :=
  ∀ (cmd len : Byte) (d d' : List Byte), d.Perm d' → xorFold cmd len d = xorFold cmd len d'

/-- A length byte above 10 is a length violation whatever the other fields are, and no packet with one is ever decoded. -/
def Obligations.LengthViolationRejected : Prop :=
  ∀ (cmd len : Byte) (rest : List Byte), 10 < len.toNat → decode (0xAA :: cmd :: len :: rest) = .error .length

/-! ## The framer, one step at a time (40_framer.md). F moves next in each. -/

/-- R101, whole. -/
def Obligations.WaitStartByteStep : Prop :=
  ∀ (s : State) (b : Byte) (rest : List RxEvent), s.nextMove = .foreground → s.fstate = .waitStart → s.indDue = false →
    s.rxq = .byte b :: rest →
    (b = 0xAA → step s = .next { s.afterMove with rxq := rest, fstate := .readCmd }) ∧
    (b ≠ 0xAA → ∃ tr, step s = .next { s.afterMove with rxq := rest, indDue := true, trace := tr })

/-- R102, whole: no command value is checked. -/
def Obligations.ReadCmdByteStep : Prop :=
  ∀ (s : State) (b : Byte) (rest : List RxEvent), s.nextMove = .foreground → s.fstate = .readCmd →
    s.rxq = .byte b :: rest → step s = .next { s.afterMove with rxq := rest, cmd := b, fstate := .readLen }

/-- R103, whole: 10 is legal, 11 is not, 0 skips `ReadData`. -/
def Obligations.ReadLenByteStep : Prop :=
  ∀ (s : State) (b : Byte) (rest : List RxEvent), s.nextMove = .foreground → s.fstate = .readLen →
    s.rxq = .byte b :: rest →
    (10 < b.toNat → ∃ tr, step s =
      .next { s.afterMove with rxq := rest, len := b, fstate := .waitStart, indDue := true, trace := tr }) ∧
    (b = 0 → step s = .next { s.afterMove with rxq := rest, len := b, idx := 0, fstate := .readChk }) ∧
    (b ≠ 0 → b.toNat ≤ 10 → step s = .next { s.afterMove with rxq := rest, len := b, idx := 0, fstate := .readData })

/-- R104, whole: the byte goes to `DATA[IDX]`, `IDX` grows by one, and at `LEN` the checksum is next. -/
def Obligations.ReadDataByteStep : Prop :=
  ∀ (s : State) (b : Byte) (rest : List RxEvent), s.nextMove = .foreground → s.fstate = .readData →
    s.rxq = .byte b :: rest → (h : s.idx.val < 10) →
    step s = .next { s.afterMove with
      rxq := rest
      data := s.data.set s.idx.val b
      idx := ⟨s.idx.val + 1, by omega⟩
      fstate := if s.idx.val + 1 = s.len.toNat then .readChk else .readData }

/-- R105, whole: any value is taken as the checksum. -/
def Obligations.ReadChkByteStep : Prop :=
  ∀ (s : State) (b : Byte) (rest : List RxEvent), s.nextMove = .foreground → s.fstate = .readChk →
    s.rxq = .byte b :: rest → step s = .next { s.afterMove with rxq := rest, chk := b, fstate := .readEnd }

/-- R106, whole: the end marker first, then the checksum, then the commit, in one step. -/
def Obligations.ReadEndByteStep : Prop :=
  ∀ (s : State) (b : Byte) (rest : List RxEvent), s.nextMove = .foreground → s.fstate = .readEnd →
    s.rxq = .byte b :: rest → s.len.toNat ≤ 10 →
    (b ≠ 0x55 → ∃ tr, step s =
      .next { s.afterMove with rxq := rest, fstate := .waitStart, indDue := true, trace := tr }) ∧
    (b = 0x55 → s.chk ≠ xorFold s.cmd s.len (s.data.toList.take s.len.toNat) → ∃ tr, step s =
      .next { s.afterMove with rxq := rest, fstate := .waitStart, indDue := true, trace := tr }) ∧
    (b = 0x55 → s.chk = xorFold s.cmd s.len (s.data.toList.take s.len.toNat) → step s =
      exec (decodeCommand s.cmd (s.data.toList.take s.len.toNat))
        { s.afterMove with rxq := rest, fstate := .waitStart, indDue := true })

/-- In states that no run reaches (log 9), where a byte step would index `DATA` outside its ten entries, the model stops with a
fault of that name instead of picking a value (the spec's treatment of unreachable states, 93_implementation_defined.md). -/
def Obligations.IndexOutsideDataFaults : Prop :=
  ∀ (s : State) (b : Byte) (rest : List RxEvent), s.nextMove = .foreground → s.rxq = .byte b :: rest →
    (s.fstate = .readData → s.idx.val = 10 → step s = .fault .dataIndexOutOfRange) ∧
    (s.fstate = .readEnd → b = 0x55 → 10 < s.len.toNat → step s = .fault .lengthOutOfRange)

/-- R109, whole, with its label: a `Timeout` abandons a packet from any state but `WaitStart`, where it does nothing. -/
def Obligations.TimeoutStepAbandons : Prop :=
  ∀ (s : State) (rest : List RxEvent), s.nextMove = .foreground → s.rxq = .timeout :: rest →
    (s.fstate ≠ .waitStart → step s = .next { s.afterMove with
      rxq := rest, fstate := .waitStart, indDue := true, trace := s.trace ++ [.label .dropTimeout] }) ∧
    (s.fstate = .waitStart → s.indDue = false → step s = .next { s.afterMove with rxq := rest })

/-- The labels of the steps that end an invocation without a commit (60_exceptions.md outcome labels, D24; the trace is the
model's, log 10): the first failing check names the drop of a byte step, and a timeout step outside `WaitStart` names its own;
in `WaitStart` it leaves no label. -/
def Obligations.DropLabelNamesTheFailedCheck : Prop :=
  ∀ (s t : State) (rest : List RxEvent), s.nextMove = .foreground → ¬(s.fstate = .waitStart ∧ s.indDue = true) →
    step s = .next t →
    (∀ b : Byte, s.rxq = .byte b :: rest →
      (s.fstate = .waitStart → b ≠ 0xAA → t.trace = s.trace ++ [.label .discardNonstart]) ∧
      (s.fstate = .readLen → 10 < b.toNat → t.trace = s.trace ++ [.label .dropLength]) ∧
      (s.fstate = .readEnd → b ≠ 0x55 → t.trace = s.trace ++ [.label .dropEnd]) ∧
      (s.fstate = .readEnd → b = 0x55 → s.chk ≠ xorFold s.cmd s.len (s.data.toList.take s.len.toNat) →
        t.trace = s.trace ++ [.label .dropChecksum])) ∧
    (s.rxq = .timeout :: rest →
      (s.fstate ≠ .waitStart → t.trace = s.trace ++ [.label .dropTimeout]) ∧
      (s.fstate = .waitStart → t.trace = s.trace))

/-- 40_framer.md, foreground step selection: with no event to take and no indicator update due, F waits; the model's step
then changes nothing but the moves to come (log 12). -/
def Obligations.ForegroundWaitsForInput : Prop :=
  ∀ s : State, s.nextMove = .foreground → s.rxq = [] → ¬(s.fstate = .waitStart ∧ s.indDue = true) →
    step s = .next s.afterMove

/-- A step runs the decoded instruction: where the framer holds a packet's bytes and the byte to come completes one that the
decoder reads as `i`, the step is `exec i` at the state whose event is taken and whose invocation has ended. -/
def Obligations.StepRunsTheDecodedInstr : Prop :=
  ∀ (s : State) (b : Byte) (rest : List RxEvent) (i : Instr), s.nextMove = .foreground → s.fstate = .readEnd →
    s.rxq = .byte b :: rest →
    decode (0xAA :: s.cmd :: s.len :: (s.data.toList.take s.len.toNat ++ [s.chk, b])) = .ok (i, []) →
    step s = exec i { s.afterMove with rxq := rest, fstate := .waitStart, indDue := true }

/-- The resynchronisation guarantee of 40_framer.md, by which a packet on the line reaches its commit: from `WaitStart` with no
update due and the packet of a well-formed instruction at the head of `RXQ`, the next `LEN + 5` steps of F consume exactly the
packet and commit it, whatever the scratch registers held. -/
def Obligations.PacketAtQueueHeadCommits : Prop :=
  ∀ (i : Instr) (s : State) (rest : List RxEvent) (later : List Move), i.wellFormed = true → s.fstate = .waitStart →
    s.indDue = false → s.rxq = (encode i).map .byte ++ rest →
    s.agenda = List.replicate (i.data.length + 5) .foreground ++ later →
    Host.Core.run Sys2Proof.core (i.data.length + 5) s = exec i { s with
      agenda := later
      rxq := rest
      fstate := .waitStart
      indDue := true
      cmd := i.code
      len := i.lenByte
      data := overwriteData 0 i.data s.data
      idx := Fin.ofNat 11 i.data.length
      chk := i.checksum }

/-- No rescanning, and arrival order: a step of F takes at most the head of `RXQ` and puts nothing back. -/
def Obligations.ForegroundTakesAtMostTheHead : Prop :=
  ∀ s t : State, s.nextMove = .foreground → step s = .next t → t.rxq = s.rxq ∨ ∃ e, s.rxq = e :: t.rxq

/-- 40_framer.md, registers after a drop: what the scratch registers hold before the framer writes them cannot be observed.
Two states that differ there only take the same steps and stay so related. (It also makes the scratch values the model names
at reset, log 3, of no consequence.) -/
def Obligations.StaleScratchIsUnobservable : Prop :=
  ∀ s t s' : State, SameButScratch s t → step s = .next s' → ∃ t', step t = .next t' ∧ SameButScratch s' t'

/-! ## Display driver and indicators (42_display.md) -/

/-- R146, whole: the two latches, the cursor and the three pin events in order; nothing else. -/
def Obligations.TickEffect : Prop :=
  ∀ s : State, s.nextMove = .tick → step s = .next { s.afterMove with
    digSel := BitVec.ofNat 6 (2 ^ s.cursor.val)
    segOut := (s.dbuf.get s.cursor).setWidth 7
    cursor := ⟨(s.cursor.val + 1) % 6, Nat.mod_lt _ (by decide)⟩
    trace := s.trace ++ [.pins s.segOut 0, .pins ((s.dbuf.get s.cursor).setWidth 7) 0,
      .pins ((s.dbuf.get s.cursor).setWidth 7) (BitVec.ofNat 6 (2 ^ s.cursor.val))] }

/-- 42_display.md, cycle properties (i): in any stretch of a run that holds six ticks and no reset, however the other agents'
steps fall between them, each select line is energized by exactly one pin event. -/
def Obligations.SixTicksEnergizeEachSlotOnce : Prop :=
  ∀ (s t : State) (later : List Move) (moves : List Move), s.agenda = moves ++ later → moves.count .tick = 6 →
    .reset ∉ moves → Host.Core.run Sys2Proof.core moves.length s = .next t →
    ∀ k : Fin 6, ((t.trace.drop s.trace.length).filter (Observation.energizes k)).length = 1

/-- 42_display.md, cycle properties (iii): six ticks on an unchanged buffer show every slot, each its own pattern and no
other, and bring the cursor back. -/
def Obligations.FullCycleShowsTheBuffer : Prop :=
  ∀ (s : State) (later : List Move), s.agenda = List.replicate 6 .tick ++ later →
    ∃ t, Host.Core.run Sys2Proof.core 6 s = .next t ∧ t.cursor = s.cursor ∧ t.dbuf = s.dbuf ∧
      ∀ k : Fin 6,
        (∃ sel : BitVec 6, .pins ((s.dbuf.get k).setWidth 7) sel ∈ t.trace.drop s.trace.length ∧
          sel.getLsbD k.val = true) ∧
        (∀ (seg : BitVec 7) (sel : BitVec 6), .pins seg sel ∈ t.trace.drop s.trace.length →
          sel.getLsbD k.val = true → seg = (s.dbuf.get k).setWidth 7)

/-- 20_memory.md, consistency model: a tick never shows a torn buffer. In a state with the invariant it drives the pattern that
the current match state builds for the cursor's slot. -/
def Obligations.TickShowsTheCurrentMatchState : Prop :=
  ∀ s : State, s.Inv → s.nextMove = .tick → ∃ d t, build s.minutes s.seconds s.redScore = some d ∧ step s = .next t ∧
    t.segOut = (d.get s.cursor).setWidth 7 ∧ t.digSel = onehot6 s.cursor

/-- R150, whole: the outputs follow the flags only while the match is active; nothing else but `IND_DUE` changes. -/
def Obligations.IndicatorUpdateEffect : Prop :=
  ∀ s : State, s.nextMove = .foreground → s.fstate = .waitStart → s.indDue = true →
    (s.phase = .active →
      step s = .next { s.afterMove with indRedOut := s.redFlag, indBlueOut := s.blueFlag, indDue := false }) ∧
    (s.phase ≠ .active →
      step s = .next { s.afterMove with indRedOut := false, indBlueOut := false, indDue := false })

/-- 10_state.md, the digit-select latch and the indicator outputs: a line carries its active level exactly when its logical
value is 1, whichever level the open parameters are. -/
def Obligations.LinesCarryTheActiveLevel : Prop :=
  (∀ (s : State) (k : Fin 6), s.digitLineLevel k = Config.digitActiveLevel ↔ s.digSel.getLsbD k.val = true) ∧
  (∀ on : Bool, indicatorLineLevel on = Config.indicatorActiveLevel ↔ on = true)

/-- 60_exceptions.md, agents and sharing: T cannot influence F. A stretch of a run with its ticks taken out ends in the same
registers, queues, labels and sent bytes, T's own registers and pin events apart. -/
def Obligations.TicksDoNotDisturbTheForeground : Prop :=
  ∀ (s t : State) (moves : List Move), s.agenda = moves → Host.Core.run Sys2Proof.core moves.length s = .next t →
    ∃ t', Host.Core.run Sys2Proof.core (moves.filter (fun m => m != .tick)).length
        { s with agenda := moves.filter (fun m => m != .tick) } = .next t' ∧ t'.withoutDriver = t.withoutDriver

/-! ## The environment and reset (20_memory.md, 70_reset_and_hazards.md) -/

/-- What E's moves do: a received byte goes to the tail of `RXQ`, a `Timeout` too unless the timeout is infinite, and the head
of `TXQ` is taken and sent. On an empty `TXQ` there is nothing to take (log 12); the record of sent bytes is the model's (log 10). -/
def Obligations.EnvironmentMoves : Prop :=
  (∀ (s : State) (b : Byte), s.nextMove = .rxByte b → step s = .next { s.afterMove with rxq := s.rxq ++ [.byte b] }) ∧
  (∀ s : State, s.nextMove = .rxTimeout → step s =
    .next { s.afterMove with rxq := if Config.byteTimeout.isSome then s.rxq ++ [.timeout] else s.rxq }) ∧
  (∀ (s : State) (b : Byte) (rest : List Byte), s.nextMove = .txDrain → s.txq = b :: rest → step s =
    .next { s.afterMove with txq := rest, trace := s.trace ++ [.sent b] }) ∧
  (∀ s : State, s.nextMove = .txDrain → s.txq = [] → step s = .next s.afterMove)

/-- The reset values of 70_reset_and_hazards.md (those the spec gives). -/
def Obligations.ResetStateHoldsTheDefaults : Prop :=
  let s := State.reset
  s.fstate = .waitStart ∧ s.indDue = false ∧ s.minutes = 2 ∧ s.seconds = 30 ∧ s.redScore = 0 ∧ s.blueScore = 0 ∧
  s.phase = .idle ∧ s.matchActive = false ∧ s.redFlag = false ∧ s.blueFlag = false ∧ build 2 30 0 = some s.dbuf ∧
  s.cursor = 0 ∧ s.segOut = 0 ∧ s.digSel = 0 ∧ s.indRedOut = false ∧ s.indBlueOut = false ∧ s.rxq = [] ∧ s.txq = []

/-- 70_reset_and_hazards.md, power-on reset at any time: every register and queue takes its reset value. That the trace goes on
with a mark, and that the moves to come stay, is the model's choice (log 11); so are the scratch values (log 3). -/
def Obligations.ResetEventLoadsResetValues : Prop :=
  ∀ s : State, s.nextMove = .reset → ∃ tr, step s =
    .next { State.reset with trace := tr, agenda := s.afterMove.agenda, freeMoves := s.afterMove.freeMoves }

/-! ## The whole machine -/

/-- The invariant (R44, R45, R46, the framer's bounds, R151) holds at reset. -/
def Obligations.ResetHasTheInvariant : Prop := State.reset.Inv

/-- Every step of every agent keeps the invariant. -/
def Obligations.EveryStepKeepsTheInvariant : Prop :=
  ∀ s t : State, s.Inv → step s = .next t → t.Inv

/-- 40_framer.md, totality: in a state with the invariant the next step is defined, whatever the agent, the framer state and
the byte. No input makes the block fault. -/
def Obligations.NoInputStopsTheMachine : Prop :=
  ∀ s : State, s.Inv → ∃ t, step s = .next t

/-- 10_state.md, writers of each register: match state and `DBUF` change only in a reset or in the commit of a command that
the table names for them. -/
def Obligations.MatchStateChangesOnlyByItsCommands : Prop :=
  ∀ s t : State, step s = .next t → s.nextMove = .reset ∨
    ((t.minutes ≠ s.minutes ∨ t.seconds ≠ s.seconds →
      ∃ d, s.committing = some (.updateTimer d) ∨ s.committing = some (.resetMatch d)) ∧
     (t.redScore ≠ s.redScore ∨ t.blueScore ≠ s.blueScore →
      ∃ d, s.committing = some (.updateScore d) ∨ s.committing = some (.resetMatch d)) ∧
     (t.phase ≠ s.phase → ∃ d, s.committing = some (.startMatch d) ∨ s.committing = some (.stopMatch d) ∨
      s.committing = some (.resetMatch d)) ∧
     (t.redFlag ≠ s.redFlag ∨ t.blueFlag ≠ s.blueFlag → ∃ d, s.committing = some (.startMatch d) ∨
      s.committing = some (.stopMatch d) ∨ s.committing = some (.resetMatch d) ∨ s.committing = some (.setLed d)) ∧
     (t.dbuf ≠ s.dbuf → ∃ d, s.committing = some (.updateScore d) ∨ s.committing = some (.updateTimer d) ∨
      s.committing = some (.resetMatch d)))

/-- 10_state.md, writers of each register: the driver's registers change only in a tick, the indicator latches only in the
indicator update, and either in a reset. -/
def Obligations.OutputsChangeOnlyByTheirOwners : Prop :=
  ∀ s t : State, step s = .next t → s.nextMove = .reset ∨
    ((t.cursor ≠ s.cursor ∨ t.segOut ≠ s.segOut ∨ t.digSel ≠ s.digSel → s.nextMove = .tick) ∧
     (t.indRedOut ≠ s.indRedOut ∨ t.indBlueOut ≠ s.indBlueOut →
      s.nextMove = .foreground ∧ s.fstate = .waitStart ∧ s.indDue = true))

/-- 30_encoding.md, the one reply: nothing but the PING acknowledgment ever enters `TXQ`, and nothing but the environment's
head-first draining (or a reset) leaves it. -/
def Obligations.OnlyPingTransmits : Prop :=
  ∀ s t : State, step s = .next t →
    t.txq = s.txq ∨ (∃ d, s.committing = some (.ping d) ∧ t.txq = s.txq ++ [0xAA, 0xCC, 0x55]) ∨
    (s.nextMove = .txDrain ∧ ∃ b, s.txq = b :: t.txq) ∨ (s.nextMove = .reset ∧ t.txq = [])

/-! ## Fairness (20_memory.md, order of commands, fetch and fairness) -/

/-- R54 and R67 (i): T's step is enabled in every state, and in the run from any sound state T moves again and again: after any
number of steps there is a later one that is T's. (The run's moves are the agenda's, which ends, and then the free order's.) -/
def Obligations.TickStepsInfinitelyOften : Prop :=
  (∀ s : State, ∃ t, runMove .tick s = .next t) ∧
  ∀ s : State, s.Inv → ∀ n : Nat, ∃ k t, n ≤ k ∧ Host.Core.run Sys2Proof.core k s = .next t ∧ t.nextMove = .tick

/-- R67 (ii): in the run from any sound state F gets its turn again and again, and at its turn takes its step if one is enabled
(the update, which ends being due, or the head event). So an F step that stays enabled is taken. -/
def Obligations.EnabledForegroundStepIsTaken : Prop :=
  ∀ s : State, s.Inv → ∀ n : Nat, ∃ k t, n ≤ k ∧ Host.Core.run Sys2Proof.core k s = .next t ∧ t.nextMove = .foreground ∧
    (t.foregroundEnabled → ∃ u, step t = .next u ∧
      ((t.fstate = .waitStart ∧ t.indDue = true ∧ u.indDue = false ∧ u.rxq = t.rxq) ∨ ∃ e, t.rxq = e :: u.rxq))

/-- R67, nothing more and nothing less: the orders that the free stretches give are exactly the fair ones, so no fair order of
the agents' moves, and no timing of E's arrivals (R67 (iii)), is shut out. (That the order is drawn from stretches is the model's
choice, log 4.) -/
def Obligations.FairOrdersAreExactlyTheFreeOrders : Prop :=
  ∀ order : Nat → Move, FairOrder order ↔ ∃ stretch : Nat → List Move, ∀ n, fairMove stretch n = order n
end

