-- ==== Sys2Proof/Laws/Segments.lean ====
section
/-! SUPPORT. What the builder can answer (spec 42_display.md R140 to R143). -/

namespace Sys2Proof.Machine

theorem tens_lt_ten {v : Byte} (h : v.toNat ≤ 99) : tens v < 10 := by unfold tens; omega

theorem units_lt_ten (v : Byte) : units v < 10 := by unfold units; omega

theorem tens_units (v : Byte) : tens v * 10 + units v = v.toNat := by unfold tens units; omega

theorem twoDigits_of_le (rom : Vector Byte 10) {v : Byte} (h : v.toNat ≤ 99) :
    twoDigits rom v = some (rom.get ⟨tens v, tens_lt_ten h⟩, rom.get ⟨units v, units_lt_ten v⟩) := by
  simp [twoDigits, h]

theorem twoDigits_of_gt (rom : Vector Byte 10) {v : Byte} (h : 99 < v.toNat) : twoDigits rom v = none := by
  simp [twoDigits, Nat.not_le.mpr h]

/-- The builder answers exactly on values 0..99, and then with the six patterns of their digits. -/
theorem buildWith_eq_some (rom : Vector Byte 10) {m s r : Byte} {d : Vector Byte 6} (h : buildWith rom m s r = some d) :
    ∃ (hm : m.toNat ≤ 99) (hs : s.toNat ≤ 99) (hr : r.toNat ≤ 99),
      d = #v[rom.get ⟨tens m, tens_lt_ten hm⟩, rom.get ⟨units m, units_lt_ten m⟩,
             rom.get ⟨tens s, tens_lt_ten hs⟩, rom.get ⟨units s, units_lt_ten s⟩,
             rom.get ⟨tens r, tens_lt_ten hr⟩, rom.get ⟨units r, units_lt_ten r⟩] := by
  by_cases hm : m.toNat ≤ 99
  · by_cases hs : s.toNat ≤ 99
    · by_cases hr : r.toNat ≤ 99
      · refine ⟨hm, hs, hr, ?_⟩
        simp only [buildWith, twoDigits_of_le rom hm, twoDigits_of_le rom hs, twoDigits_of_le rom hr] at h
        exact (Option.some.inj h).symm
      · simp [buildWith, twoDigits_of_gt rom (Nat.lt_of_not_le hr)] at h
    · simp [buildWith, twoDigits_of_gt rom (Nat.lt_of_not_le hs)] at h
  · simp [buildWith, twoDigits_of_gt rom (Nat.lt_of_not_le hm)] at h

theorem buildWith_isSome (rom : Vector Byte 10) {m s r : Byte} (hm : m.toNat ≤ 99) (hs : s.toNat ≤ 99)
    (hr : r.toNat ≤ 99) : ∃ d, buildWith rom m s r = some d :=
  ⟨_, by simp only [buildWith, twoDigits_of_le rom hm, twoDigits_of_le rom hs, twoDigits_of_le rom hr]; rfl⟩

/-- R36, R181: the reset value of `DBUF` is the build of the defaults. -/
theorem build_defaults :
    build Config.defaultMinutes Config.defaultSeconds Config.defaultScore = some resetBuffer := by decide

theorem nextCursor_val (c : Fin 6) : (nextCursor c).val = (c.val + 1) % 6 := rfl

end Sys2Proof.Machine
end

