-- ==== Sys2Proof/Laws/State.lean ====
section
/-! SUPPORT. The register writes of Machine/Ops.lean: one lemma per field per write, so that no later proof unfolds a record update. -/

namespace Sys2Proof.Machine

/-! `setFState` writes fstate and nothing else. -/
@[simp] theorem State.setFState_fstate (s : State) (f : FState) : (s.setFState f).fstate = f := rfl
@[simp] theorem State.setFState_cmd (s : State) (f : FState) : (s.setFState f).cmd = s.cmd := rfl
@[simp] theorem State.setFState_len (s : State) (f : FState) : (s.setFState f).len = s.len := rfl
@[simp] theorem State.setFState_data (s : State) (f : FState) : (s.setFState f).data = s.data := rfl
@[simp] theorem State.setFState_idx (s : State) (f : FState) : (s.setFState f).idx = s.idx := rfl
@[simp] theorem State.setFState_chk (s : State) (f : FState) : (s.setFState f).chk = s.chk := rfl
@[simp] theorem State.setFState_indDue (s : State) (f : FState) : (s.setFState f).indDue = s.indDue := rfl
@[simp] theorem State.setFState_minutes (s : State) (f : FState) : (s.setFState f).minutes = s.minutes := rfl
@[simp] theorem State.setFState_seconds (s : State) (f : FState) : (s.setFState f).seconds = s.seconds := rfl
@[simp] theorem State.setFState_redScore (s : State) (f : FState) : (s.setFState f).redScore = s.redScore := rfl
@[simp] theorem State.setFState_blueScore (s : State) (f : FState) : (s.setFState f).blueScore = s.blueScore := rfl
@[simp] theorem State.setFState_phase (s : State) (f : FState) : (s.setFState f).phase = s.phase := rfl
@[simp] theorem State.setFState_redFlag (s : State) (f : FState) : (s.setFState f).redFlag = s.redFlag := rfl
@[simp] theorem State.setFState_blueFlag (s : State) (f : FState) : (s.setFState f).blueFlag = s.blueFlag := rfl
@[simp] theorem State.setFState_dbuf (s : State) (f : FState) : (s.setFState f).dbuf = s.dbuf := rfl
@[simp] theorem State.setFState_cursor (s : State) (f : FState) : (s.setFState f).cursor = s.cursor := rfl
@[simp] theorem State.setFState_segOut (s : State) (f : FState) : (s.setFState f).segOut = s.segOut := rfl
@[simp] theorem State.setFState_digSel (s : State) (f : FState) : (s.setFState f).digSel = s.digSel := rfl
@[simp] theorem State.setFState_indRedOut (s : State) (f : FState) : (s.setFState f).indRedOut = s.indRedOut := rfl
@[simp] theorem State.setFState_indBlueOut (s : State) (f : FState) : (s.setFState f).indBlueOut = s.indBlueOut := rfl
@[simp] theorem State.setFState_rxq (s : State) (f : FState) : (s.setFState f).rxq = s.rxq := rfl
@[simp] theorem State.setFState_txq (s : State) (f : FState) : (s.setFState f).txq = s.txq := rfl
@[simp] theorem State.setFState_trace (s : State) (f : FState) : (s.setFState f).trace = s.trace := rfl
@[simp] theorem State.setFState_agenda (s : State) (f : FState) : (s.setFState f).agenda = s.agenda := rfl
@[simp] theorem State.setFState_freeMoves (s : State) (f : FState) : (s.setFState f).freeMoves = s.freeMoves := rfl

/-! `setCmd` writes cmd and nothing else. -/
@[simp] theorem State.setCmd_fstate (s : State) (b : Byte) : (s.setCmd b).fstate = s.fstate := rfl
@[simp] theorem State.setCmd_cmd (s : State) (b : Byte) : (s.setCmd b).cmd = b := rfl
@[simp] theorem State.setCmd_len (s : State) (b : Byte) : (s.setCmd b).len = s.len := rfl
@[simp] theorem State.setCmd_data (s : State) (b : Byte) : (s.setCmd b).data = s.data := rfl
@[simp] theorem State.setCmd_idx (s : State) (b : Byte) : (s.setCmd b).idx = s.idx := rfl
@[simp] theorem State.setCmd_chk (s : State) (b : Byte) : (s.setCmd b).chk = s.chk := rfl
@[simp] theorem State.setCmd_indDue (s : State) (b : Byte) : (s.setCmd b).indDue = s.indDue := rfl
@[simp] theorem State.setCmd_minutes (s : State) (b : Byte) : (s.setCmd b).minutes = s.minutes := rfl
@[simp] theorem State.setCmd_seconds (s : State) (b : Byte) : (s.setCmd b).seconds = s.seconds := rfl
@[simp] theorem State.setCmd_redScore (s : State) (b : Byte) : (s.setCmd b).redScore = s.redScore := rfl
@[simp] theorem State.setCmd_blueScore (s : State) (b : Byte) : (s.setCmd b).blueScore = s.blueScore := rfl
@[simp] theorem State.setCmd_phase (s : State) (b : Byte) : (s.setCmd b).phase = s.phase := rfl
@[simp] theorem State.setCmd_redFlag (s : State) (b : Byte) : (s.setCmd b).redFlag = s.redFlag := rfl
@[simp] theorem State.setCmd_blueFlag (s : State) (b : Byte) : (s.setCmd b).blueFlag = s.blueFlag := rfl
@[simp] theorem State.setCmd_dbuf (s : State) (b : Byte) : (s.setCmd b).dbuf = s.dbuf := rfl
@[simp] theorem State.setCmd_cursor (s : State) (b : Byte) : (s.setCmd b).cursor = s.cursor := rfl
@[simp] theorem State.setCmd_segOut (s : State) (b : Byte) : (s.setCmd b).segOut = s.segOut := rfl
@[simp] theorem State.setCmd_digSel (s : State) (b : Byte) : (s.setCmd b).digSel = s.digSel := rfl
@[simp] theorem State.setCmd_indRedOut (s : State) (b : Byte) : (s.setCmd b).indRedOut = s.indRedOut := rfl
@[simp] theorem State.setCmd_indBlueOut (s : State) (b : Byte) : (s.setCmd b).indBlueOut = s.indBlueOut := rfl
@[simp] theorem State.setCmd_rxq (s : State) (b : Byte) : (s.setCmd b).rxq = s.rxq := rfl
@[simp] theorem State.setCmd_txq (s : State) (b : Byte) : (s.setCmd b).txq = s.txq := rfl
@[simp] theorem State.setCmd_trace (s : State) (b : Byte) : (s.setCmd b).trace = s.trace := rfl
@[simp] theorem State.setCmd_agenda (s : State) (b : Byte) : (s.setCmd b).agenda = s.agenda := rfl
@[simp] theorem State.setCmd_freeMoves (s : State) (b : Byte) : (s.setCmd b).freeMoves = s.freeMoves := rfl

/-! `setLen` writes len and nothing else. -/
@[simp] theorem State.setLen_fstate (s : State) (b : Byte) : (s.setLen b).fstate = s.fstate := rfl
@[simp] theorem State.setLen_cmd (s : State) (b : Byte) : (s.setLen b).cmd = s.cmd := rfl
@[simp] theorem State.setLen_len (s : State) (b : Byte) : (s.setLen b).len = b := rfl
@[simp] theorem State.setLen_data (s : State) (b : Byte) : (s.setLen b).data = s.data := rfl
@[simp] theorem State.setLen_idx (s : State) (b : Byte) : (s.setLen b).idx = s.idx := rfl
@[simp] theorem State.setLen_chk (s : State) (b : Byte) : (s.setLen b).chk = s.chk := rfl
@[simp] theorem State.setLen_indDue (s : State) (b : Byte) : (s.setLen b).indDue = s.indDue := rfl
@[simp] theorem State.setLen_minutes (s : State) (b : Byte) : (s.setLen b).minutes = s.minutes := rfl
@[simp] theorem State.setLen_seconds (s : State) (b : Byte) : (s.setLen b).seconds = s.seconds := rfl
@[simp] theorem State.setLen_redScore (s : State) (b : Byte) : (s.setLen b).redScore = s.redScore := rfl
@[simp] theorem State.setLen_blueScore (s : State) (b : Byte) : (s.setLen b).blueScore = s.blueScore := rfl
@[simp] theorem State.setLen_phase (s : State) (b : Byte) : (s.setLen b).phase = s.phase := rfl
@[simp] theorem State.setLen_redFlag (s : State) (b : Byte) : (s.setLen b).redFlag = s.redFlag := rfl
@[simp] theorem State.setLen_blueFlag (s : State) (b : Byte) : (s.setLen b).blueFlag = s.blueFlag := rfl
@[simp] theorem State.setLen_dbuf (s : State) (b : Byte) : (s.setLen b).dbuf = s.dbuf := rfl
@[simp] theorem State.setLen_cursor (s : State) (b : Byte) : (s.setLen b).cursor = s.cursor := rfl
@[simp] theorem State.setLen_segOut (s : State) (b : Byte) : (s.setLen b).segOut = s.segOut := rfl
@[simp] theorem State.setLen_digSel (s : State) (b : Byte) : (s.setLen b).digSel = s.digSel := rfl
@[simp] theorem State.setLen_indRedOut (s : State) (b : Byte) : (s.setLen b).indRedOut = s.indRedOut := rfl
@[simp] theorem State.setLen_indBlueOut (s : State) (b : Byte) : (s.setLen b).indBlueOut = s.indBlueOut := rfl
@[simp] theorem State.setLen_rxq (s : State) (b : Byte) : (s.setLen b).rxq = s.rxq := rfl
@[simp] theorem State.setLen_txq (s : State) (b : Byte) : (s.setLen b).txq = s.txq := rfl
@[simp] theorem State.setLen_trace (s : State) (b : Byte) : (s.setLen b).trace = s.trace := rfl
@[simp] theorem State.setLen_agenda (s : State) (b : Byte) : (s.setLen b).agenda = s.agenda := rfl
@[simp] theorem State.setLen_freeMoves (s : State) (b : Byte) : (s.setLen b).freeMoves = s.freeMoves := rfl

/-! `setData` writes data and nothing else. -/
@[simp] theorem State.setData_fstate (s : State) (k : Nat) (b : Byte) : (s.setData k b).fstate = s.fstate := rfl
@[simp] theorem State.setData_cmd (s : State) (k : Nat) (b : Byte) : (s.setData k b).cmd = s.cmd := rfl
@[simp] theorem State.setData_len (s : State) (k : Nat) (b : Byte) : (s.setData k b).len = s.len := rfl
@[simp] theorem State.setData_data (s : State) (k : Nat) (b : Byte) : (s.setData k b).data = s.data.setIfInBounds k b := rfl
@[simp] theorem State.setData_idx (s : State) (k : Nat) (b : Byte) : (s.setData k b).idx = s.idx := rfl
@[simp] theorem State.setData_chk (s : State) (k : Nat) (b : Byte) : (s.setData k b).chk = s.chk := rfl
@[simp] theorem State.setData_indDue (s : State) (k : Nat) (b : Byte) : (s.setData k b).indDue = s.indDue := rfl
@[simp] theorem State.setData_minutes (s : State) (k : Nat) (b : Byte) : (s.setData k b).minutes = s.minutes := rfl
@[simp] theorem State.setData_seconds (s : State) (k : Nat) (b : Byte) : (s.setData k b).seconds = s.seconds := rfl
@[simp] theorem State.setData_redScore (s : State) (k : Nat) (b : Byte) : (s.setData k b).redScore = s.redScore := rfl
@[simp] theorem State.setData_blueScore (s : State) (k : Nat) (b : Byte) : (s.setData k b).blueScore = s.blueScore := rfl
@[simp] theorem State.setData_phase (s : State) (k : Nat) (b : Byte) : (s.setData k b).phase = s.phase := rfl
@[simp] theorem State.setData_redFlag (s : State) (k : Nat) (b : Byte) : (s.setData k b).redFlag = s.redFlag := rfl
@[simp] theorem State.setData_blueFlag (s : State) (k : Nat) (b : Byte) : (s.setData k b).blueFlag = s.blueFlag := rfl
@[simp] theorem State.setData_dbuf (s : State) (k : Nat) (b : Byte) : (s.setData k b).dbuf = s.dbuf := rfl
@[simp] theorem State.setData_cursor (s : State) (k : Nat) (b : Byte) : (s.setData k b).cursor = s.cursor := rfl
@[simp] theorem State.setData_segOut (s : State) (k : Nat) (b : Byte) : (s.setData k b).segOut = s.segOut := rfl
@[simp] theorem State.setData_digSel (s : State) (k : Nat) (b : Byte) : (s.setData k b).digSel = s.digSel := rfl
@[simp] theorem State.setData_indRedOut (s : State) (k : Nat) (b : Byte) : (s.setData k b).indRedOut = s.indRedOut := rfl
@[simp] theorem State.setData_indBlueOut (s : State) (k : Nat) (b : Byte) : (s.setData k b).indBlueOut = s.indBlueOut := rfl
@[simp] theorem State.setData_rxq (s : State) (k : Nat) (b : Byte) : (s.setData k b).rxq = s.rxq := rfl
@[simp] theorem State.setData_txq (s : State) (k : Nat) (b : Byte) : (s.setData k b).txq = s.txq := rfl
@[simp] theorem State.setData_trace (s : State) (k : Nat) (b : Byte) : (s.setData k b).trace = s.trace := rfl
@[simp] theorem State.setData_agenda (s : State) (k : Nat) (b : Byte) : (s.setData k b).agenda = s.agenda := rfl
@[simp] theorem State.setData_freeMoves (s : State) (k : Nat) (b : Byte) : (s.setData k b).freeMoves = s.freeMoves := rfl

/-! `setIdx` writes idx and nothing else. -/
@[simp] theorem State.setIdx_fstate (s : State) (k : Fin 11) : (s.setIdx k).fstate = s.fstate := rfl
@[simp] theorem State.setIdx_cmd (s : State) (k : Fin 11) : (s.setIdx k).cmd = s.cmd := rfl
@[simp] theorem State.setIdx_len (s : State) (k : Fin 11) : (s.setIdx k).len = s.len := rfl
@[simp] theorem State.setIdx_data (s : State) (k : Fin 11) : (s.setIdx k).data = s.data := rfl
@[simp] theorem State.setIdx_idx (s : State) (k : Fin 11) : (s.setIdx k).idx = k := rfl
@[simp] theorem State.setIdx_chk (s : State) (k : Fin 11) : (s.setIdx k).chk = s.chk := rfl
@[simp] theorem State.setIdx_indDue (s : State) (k : Fin 11) : (s.setIdx k).indDue = s.indDue := rfl
@[simp] theorem State.setIdx_minutes (s : State) (k : Fin 11) : (s.setIdx k).minutes = s.minutes := rfl
@[simp] theorem State.setIdx_seconds (s : State) (k : Fin 11) : (s.setIdx k).seconds = s.seconds := rfl
@[simp] theorem State.setIdx_redScore (s : State) (k : Fin 11) : (s.setIdx k).redScore = s.redScore := rfl
@[simp] theorem State.setIdx_blueScore (s : State) (k : Fin 11) : (s.setIdx k).blueScore = s.blueScore := rfl
@[simp] theorem State.setIdx_phase (s : State) (k : Fin 11) : (s.setIdx k).phase = s.phase := rfl
@[simp] theorem State.setIdx_redFlag (s : State) (k : Fin 11) : (s.setIdx k).redFlag = s.redFlag := rfl
@[simp] theorem State.setIdx_blueFlag (s : State) (k : Fin 11) : (s.setIdx k).blueFlag = s.blueFlag := rfl
@[simp] theorem State.setIdx_dbuf (s : State) (k : Fin 11) : (s.setIdx k).dbuf = s.dbuf := rfl
@[simp] theorem State.setIdx_cursor (s : State) (k : Fin 11) : (s.setIdx k).cursor = s.cursor := rfl
@[simp] theorem State.setIdx_segOut (s : State) (k : Fin 11) : (s.setIdx k).segOut = s.segOut := rfl
@[simp] theorem State.setIdx_digSel (s : State) (k : Fin 11) : (s.setIdx k).digSel = s.digSel := rfl
@[simp] theorem State.setIdx_indRedOut (s : State) (k : Fin 11) : (s.setIdx k).indRedOut = s.indRedOut := rfl
@[simp] theorem State.setIdx_indBlueOut (s : State) (k : Fin 11) : (s.setIdx k).indBlueOut = s.indBlueOut := rfl
@[simp] theorem State.setIdx_rxq (s : State) (k : Fin 11) : (s.setIdx k).rxq = s.rxq := rfl
@[simp] theorem State.setIdx_txq (s : State) (k : Fin 11) : (s.setIdx k).txq = s.txq := rfl
@[simp] theorem State.setIdx_trace (s : State) (k : Fin 11) : (s.setIdx k).trace = s.trace := rfl
@[simp] theorem State.setIdx_agenda (s : State) (k : Fin 11) : (s.setIdx k).agenda = s.agenda := rfl
@[simp] theorem State.setIdx_freeMoves (s : State) (k : Fin 11) : (s.setIdx k).freeMoves = s.freeMoves := rfl

/-! `setChk` writes chk and nothing else. -/
@[simp] theorem State.setChk_fstate (s : State) (b : Byte) : (s.setChk b).fstate = s.fstate := rfl
@[simp] theorem State.setChk_cmd (s : State) (b : Byte) : (s.setChk b).cmd = s.cmd := rfl
@[simp] theorem State.setChk_len (s : State) (b : Byte) : (s.setChk b).len = s.len := rfl
@[simp] theorem State.setChk_data (s : State) (b : Byte) : (s.setChk b).data = s.data := rfl
@[simp] theorem State.setChk_idx (s : State) (b : Byte) : (s.setChk b).idx = s.idx := rfl
@[simp] theorem State.setChk_chk (s : State) (b : Byte) : (s.setChk b).chk = b := rfl
@[simp] theorem State.setChk_indDue (s : State) (b : Byte) : (s.setChk b).indDue = s.indDue := rfl
@[simp] theorem State.setChk_minutes (s : State) (b : Byte) : (s.setChk b).minutes = s.minutes := rfl
@[simp] theorem State.setChk_seconds (s : State) (b : Byte) : (s.setChk b).seconds = s.seconds := rfl
@[simp] theorem State.setChk_redScore (s : State) (b : Byte) : (s.setChk b).redScore = s.redScore := rfl
@[simp] theorem State.setChk_blueScore (s : State) (b : Byte) : (s.setChk b).blueScore = s.blueScore := rfl
@[simp] theorem State.setChk_phase (s : State) (b : Byte) : (s.setChk b).phase = s.phase := rfl
@[simp] theorem State.setChk_redFlag (s : State) (b : Byte) : (s.setChk b).redFlag = s.redFlag := rfl
@[simp] theorem State.setChk_blueFlag (s : State) (b : Byte) : (s.setChk b).blueFlag = s.blueFlag := rfl
@[simp] theorem State.setChk_dbuf (s : State) (b : Byte) : (s.setChk b).dbuf = s.dbuf := rfl
@[simp] theorem State.setChk_cursor (s : State) (b : Byte) : (s.setChk b).cursor = s.cursor := rfl
@[simp] theorem State.setChk_segOut (s : State) (b : Byte) : (s.setChk b).segOut = s.segOut := rfl
@[simp] theorem State.setChk_digSel (s : State) (b : Byte) : (s.setChk b).digSel = s.digSel := rfl
@[simp] theorem State.setChk_indRedOut (s : State) (b : Byte) : (s.setChk b).indRedOut = s.indRedOut := rfl
@[simp] theorem State.setChk_indBlueOut (s : State) (b : Byte) : (s.setChk b).indBlueOut = s.indBlueOut := rfl
@[simp] theorem State.setChk_rxq (s : State) (b : Byte) : (s.setChk b).rxq = s.rxq := rfl
@[simp] theorem State.setChk_txq (s : State) (b : Byte) : (s.setChk b).txq = s.txq := rfl
@[simp] theorem State.setChk_trace (s : State) (b : Byte) : (s.setChk b).trace = s.trace := rfl
@[simp] theorem State.setChk_agenda (s : State) (b : Byte) : (s.setChk b).agenda = s.agenda := rfl
@[simp] theorem State.setChk_freeMoves (s : State) (b : Byte) : (s.setChk b).freeMoves = s.freeMoves := rfl

/-! `setIndDue` writes indDue and nothing else. -/
@[simp] theorem State.setIndDue_fstate (s : State) (v : Bool) : (s.setIndDue v).fstate = s.fstate := rfl
@[simp] theorem State.setIndDue_cmd (s : State) (v : Bool) : (s.setIndDue v).cmd = s.cmd := rfl
@[simp] theorem State.setIndDue_len (s : State) (v : Bool) : (s.setIndDue v).len = s.len := rfl
@[simp] theorem State.setIndDue_data (s : State) (v : Bool) : (s.setIndDue v).data = s.data := rfl
@[simp] theorem State.setIndDue_idx (s : State) (v : Bool) : (s.setIndDue v).idx = s.idx := rfl
@[simp] theorem State.setIndDue_chk (s : State) (v : Bool) : (s.setIndDue v).chk = s.chk := rfl
@[simp] theorem State.setIndDue_indDue (s : State) (v : Bool) : (s.setIndDue v).indDue = v := rfl
@[simp] theorem State.setIndDue_minutes (s : State) (v : Bool) : (s.setIndDue v).minutes = s.minutes := rfl
@[simp] theorem State.setIndDue_seconds (s : State) (v : Bool) : (s.setIndDue v).seconds = s.seconds := rfl
@[simp] theorem State.setIndDue_redScore (s : State) (v : Bool) : (s.setIndDue v).redScore = s.redScore := rfl
@[simp] theorem State.setIndDue_blueScore (s : State) (v : Bool) : (s.setIndDue v).blueScore = s.blueScore := rfl
@[simp] theorem State.setIndDue_phase (s : State) (v : Bool) : (s.setIndDue v).phase = s.phase := rfl
@[simp] theorem State.setIndDue_redFlag (s : State) (v : Bool) : (s.setIndDue v).redFlag = s.redFlag := rfl
@[simp] theorem State.setIndDue_blueFlag (s : State) (v : Bool) : (s.setIndDue v).blueFlag = s.blueFlag := rfl
@[simp] theorem State.setIndDue_dbuf (s : State) (v : Bool) : (s.setIndDue v).dbuf = s.dbuf := rfl
@[simp] theorem State.setIndDue_cursor (s : State) (v : Bool) : (s.setIndDue v).cursor = s.cursor := rfl
@[simp] theorem State.setIndDue_segOut (s : State) (v : Bool) : (s.setIndDue v).segOut = s.segOut := rfl
@[simp] theorem State.setIndDue_digSel (s : State) (v : Bool) : (s.setIndDue v).digSel = s.digSel := rfl
@[simp] theorem State.setIndDue_indRedOut (s : State) (v : Bool) : (s.setIndDue v).indRedOut = s.indRedOut := rfl
@[simp] theorem State.setIndDue_indBlueOut (s : State) (v : Bool) : (s.setIndDue v).indBlueOut = s.indBlueOut := rfl
@[simp] theorem State.setIndDue_rxq (s : State) (v : Bool) : (s.setIndDue v).rxq = s.rxq := rfl
@[simp] theorem State.setIndDue_txq (s : State) (v : Bool) : (s.setIndDue v).txq = s.txq := rfl
@[simp] theorem State.setIndDue_trace (s : State) (v : Bool) : (s.setIndDue v).trace = s.trace := rfl
@[simp] theorem State.setIndDue_agenda (s : State) (v : Bool) : (s.setIndDue v).agenda = s.agenda := rfl
@[simp] theorem State.setIndDue_freeMoves (s : State) (v : Bool) : (s.setIndDue v).freeMoves = s.freeMoves := rfl

/-! `setScores` writes redScore, blueScore and nothing else. -/
@[simp] theorem State.setScores_fstate (s : State) (r b : Byte) : (s.setScores r b).fstate = s.fstate := rfl
@[simp] theorem State.setScores_cmd (s : State) (r b : Byte) : (s.setScores r b).cmd = s.cmd := rfl
@[simp] theorem State.setScores_len (s : State) (r b : Byte) : (s.setScores r b).len = s.len := rfl
@[simp] theorem State.setScores_data (s : State) (r b : Byte) : (s.setScores r b).data = s.data := rfl
@[simp] theorem State.setScores_idx (s : State) (r b : Byte) : (s.setScores r b).idx = s.idx := rfl
@[simp] theorem State.setScores_chk (s : State) (r b : Byte) : (s.setScores r b).chk = s.chk := rfl
@[simp] theorem State.setScores_indDue (s : State) (r b : Byte) : (s.setScores r b).indDue = s.indDue := rfl
@[simp] theorem State.setScores_minutes (s : State) (r b : Byte) : (s.setScores r b).minutes = s.minutes := rfl
@[simp] theorem State.setScores_seconds (s : State) (r b : Byte) : (s.setScores r b).seconds = s.seconds := rfl
@[simp] theorem State.setScores_redScore (s : State) (r b : Byte) : (s.setScores r b).redScore = r := rfl
@[simp] theorem State.setScores_blueScore (s : State) (r b : Byte) : (s.setScores r b).blueScore = b := rfl
@[simp] theorem State.setScores_phase (s : State) (r b : Byte) : (s.setScores r b).phase = s.phase := rfl
@[simp] theorem State.setScores_redFlag (s : State) (r b : Byte) : (s.setScores r b).redFlag = s.redFlag := rfl
@[simp] theorem State.setScores_blueFlag (s : State) (r b : Byte) : (s.setScores r b).blueFlag = s.blueFlag := rfl
@[simp] theorem State.setScores_dbuf (s : State) (r b : Byte) : (s.setScores r b).dbuf = s.dbuf := rfl
@[simp] theorem State.setScores_cursor (s : State) (r b : Byte) : (s.setScores r b).cursor = s.cursor := rfl
@[simp] theorem State.setScores_segOut (s : State) (r b : Byte) : (s.setScores r b).segOut = s.segOut := rfl
@[simp] theorem State.setScores_digSel (s : State) (r b : Byte) : (s.setScores r b).digSel = s.digSel := rfl
@[simp] theorem State.setScores_indRedOut (s : State) (r b : Byte) : (s.setScores r b).indRedOut = s.indRedOut := rfl
@[simp] theorem State.setScores_indBlueOut (s : State) (r b : Byte) : (s.setScores r b).indBlueOut = s.indBlueOut := rfl
@[simp] theorem State.setScores_rxq (s : State) (r b : Byte) : (s.setScores r b).rxq = s.rxq := rfl
@[simp] theorem State.setScores_txq (s : State) (r b : Byte) : (s.setScores r b).txq = s.txq := rfl
@[simp] theorem State.setScores_trace (s : State) (r b : Byte) : (s.setScores r b).trace = s.trace := rfl
@[simp] theorem State.setScores_agenda (s : State) (r b : Byte) : (s.setScores r b).agenda = s.agenda := rfl
@[simp] theorem State.setScores_freeMoves (s : State) (r b : Byte) : (s.setScores r b).freeMoves = s.freeMoves := rfl

/-! `setTimer` writes minutes, seconds and nothing else. -/
@[simp] theorem State.setTimer_fstate (s : State) (m c : Byte) : (s.setTimer m c).fstate = s.fstate := rfl
@[simp] theorem State.setTimer_cmd (s : State) (m c : Byte) : (s.setTimer m c).cmd = s.cmd := rfl
@[simp] theorem State.setTimer_len (s : State) (m c : Byte) : (s.setTimer m c).len = s.len := rfl
@[simp] theorem State.setTimer_data (s : State) (m c : Byte) : (s.setTimer m c).data = s.data := rfl
@[simp] theorem State.setTimer_idx (s : State) (m c : Byte) : (s.setTimer m c).idx = s.idx := rfl
@[simp] theorem State.setTimer_chk (s : State) (m c : Byte) : (s.setTimer m c).chk = s.chk := rfl
@[simp] theorem State.setTimer_indDue (s : State) (m c : Byte) : (s.setTimer m c).indDue = s.indDue := rfl
@[simp] theorem State.setTimer_minutes (s : State) (m c : Byte) : (s.setTimer m c).minutes = m := rfl
@[simp] theorem State.setTimer_seconds (s : State) (m c : Byte) : (s.setTimer m c).seconds = c := rfl
@[simp] theorem State.setTimer_redScore (s : State) (m c : Byte) : (s.setTimer m c).redScore = s.redScore := rfl
@[simp] theorem State.setTimer_blueScore (s : State) (m c : Byte) : (s.setTimer m c).blueScore = s.blueScore := rfl
@[simp] theorem State.setTimer_phase (s : State) (m c : Byte) : (s.setTimer m c).phase = s.phase := rfl
@[simp] theorem State.setTimer_redFlag (s : State) (m c : Byte) : (s.setTimer m c).redFlag = s.redFlag := rfl
@[simp] theorem State.setTimer_blueFlag (s : State) (m c : Byte) : (s.setTimer m c).blueFlag = s.blueFlag := rfl
@[simp] theorem State.setTimer_dbuf (s : State) (m c : Byte) : (s.setTimer m c).dbuf = s.dbuf := rfl
@[simp] theorem State.setTimer_cursor (s : State) (m c : Byte) : (s.setTimer m c).cursor = s.cursor := rfl
@[simp] theorem State.setTimer_segOut (s : State) (m c : Byte) : (s.setTimer m c).segOut = s.segOut := rfl
@[simp] theorem State.setTimer_digSel (s : State) (m c : Byte) : (s.setTimer m c).digSel = s.digSel := rfl
@[simp] theorem State.setTimer_indRedOut (s : State) (m c : Byte) : (s.setTimer m c).indRedOut = s.indRedOut := rfl
@[simp] theorem State.setTimer_indBlueOut (s : State) (m c : Byte) : (s.setTimer m c).indBlueOut = s.indBlueOut := rfl
@[simp] theorem State.setTimer_rxq (s : State) (m c : Byte) : (s.setTimer m c).rxq = s.rxq := rfl
@[simp] theorem State.setTimer_txq (s : State) (m c : Byte) : (s.setTimer m c).txq = s.txq := rfl
@[simp] theorem State.setTimer_trace (s : State) (m c : Byte) : (s.setTimer m c).trace = s.trace := rfl
@[simp] theorem State.setTimer_agenda (s : State) (m c : Byte) : (s.setTimer m c).agenda = s.agenda := rfl
@[simp] theorem State.setTimer_freeMoves (s : State) (m c : Byte) : (s.setTimer m c).freeMoves = s.freeMoves := rfl

/-! `setPhase` writes phase and nothing else. -/
@[simp] theorem State.setPhase_fstate (s : State) (p : Phase) : (s.setPhase p).fstate = s.fstate := rfl
@[simp] theorem State.setPhase_cmd (s : State) (p : Phase) : (s.setPhase p).cmd = s.cmd := rfl
@[simp] theorem State.setPhase_len (s : State) (p : Phase) : (s.setPhase p).len = s.len := rfl
@[simp] theorem State.setPhase_data (s : State) (p : Phase) : (s.setPhase p).data = s.data := rfl
@[simp] theorem State.setPhase_idx (s : State) (p : Phase) : (s.setPhase p).idx = s.idx := rfl
@[simp] theorem State.setPhase_chk (s : State) (p : Phase) : (s.setPhase p).chk = s.chk := rfl
@[simp] theorem State.setPhase_indDue (s : State) (p : Phase) : (s.setPhase p).indDue = s.indDue := rfl
@[simp] theorem State.setPhase_minutes (s : State) (p : Phase) : (s.setPhase p).minutes = s.minutes := rfl
@[simp] theorem State.setPhase_seconds (s : State) (p : Phase) : (s.setPhase p).seconds = s.seconds := rfl
@[simp] theorem State.setPhase_redScore (s : State) (p : Phase) : (s.setPhase p).redScore = s.redScore := rfl
@[simp] theorem State.setPhase_blueScore (s : State) (p : Phase) : (s.setPhase p).blueScore = s.blueScore := rfl
@[simp] theorem State.setPhase_phase (s : State) (p : Phase) : (s.setPhase p).phase = p := rfl
@[simp] theorem State.setPhase_redFlag (s : State) (p : Phase) : (s.setPhase p).redFlag = s.redFlag := rfl
@[simp] theorem State.setPhase_blueFlag (s : State) (p : Phase) : (s.setPhase p).blueFlag = s.blueFlag := rfl
@[simp] theorem State.setPhase_dbuf (s : State) (p : Phase) : (s.setPhase p).dbuf = s.dbuf := rfl
@[simp] theorem State.setPhase_cursor (s : State) (p : Phase) : (s.setPhase p).cursor = s.cursor := rfl
@[simp] theorem State.setPhase_segOut (s : State) (p : Phase) : (s.setPhase p).segOut = s.segOut := rfl
@[simp] theorem State.setPhase_digSel (s : State) (p : Phase) : (s.setPhase p).digSel = s.digSel := rfl
@[simp] theorem State.setPhase_indRedOut (s : State) (p : Phase) : (s.setPhase p).indRedOut = s.indRedOut := rfl
@[simp] theorem State.setPhase_indBlueOut (s : State) (p : Phase) : (s.setPhase p).indBlueOut = s.indBlueOut := rfl
@[simp] theorem State.setPhase_rxq (s : State) (p : Phase) : (s.setPhase p).rxq = s.rxq := rfl
@[simp] theorem State.setPhase_txq (s : State) (p : Phase) : (s.setPhase p).txq = s.txq := rfl
@[simp] theorem State.setPhase_trace (s : State) (p : Phase) : (s.setPhase p).trace = s.trace := rfl
@[simp] theorem State.setPhase_agenda (s : State) (p : Phase) : (s.setPhase p).agenda = s.agenda := rfl
@[simp] theorem State.setPhase_freeMoves (s : State) (p : Phase) : (s.setPhase p).freeMoves = s.freeMoves := rfl

/-! `setFlags` writes redFlag, blueFlag and nothing else. -/
@[simp] theorem State.setFlags_fstate (s : State) (r b : Bool) : (s.setFlags r b).fstate = s.fstate := rfl
@[simp] theorem State.setFlags_cmd (s : State) (r b : Bool) : (s.setFlags r b).cmd = s.cmd := rfl
@[simp] theorem State.setFlags_len (s : State) (r b : Bool) : (s.setFlags r b).len = s.len := rfl
@[simp] theorem State.setFlags_data (s : State) (r b : Bool) : (s.setFlags r b).data = s.data := rfl
@[simp] theorem State.setFlags_idx (s : State) (r b : Bool) : (s.setFlags r b).idx = s.idx := rfl
@[simp] theorem State.setFlags_chk (s : State) (r b : Bool) : (s.setFlags r b).chk = s.chk := rfl
@[simp] theorem State.setFlags_indDue (s : State) (r b : Bool) : (s.setFlags r b).indDue = s.indDue := rfl
@[simp] theorem State.setFlags_minutes (s : State) (r b : Bool) : (s.setFlags r b).minutes = s.minutes := rfl
@[simp] theorem State.setFlags_seconds (s : State) (r b : Bool) : (s.setFlags r b).seconds = s.seconds := rfl
@[simp] theorem State.setFlags_redScore (s : State) (r b : Bool) : (s.setFlags r b).redScore = s.redScore := rfl
@[simp] theorem State.setFlags_blueScore (s : State) (r b : Bool) : (s.setFlags r b).blueScore = s.blueScore := rfl
@[simp] theorem State.setFlags_phase (s : State) (r b : Bool) : (s.setFlags r b).phase = s.phase := rfl
@[simp] theorem State.setFlags_redFlag (s : State) (r b : Bool) : (s.setFlags r b).redFlag = r := rfl
@[simp] theorem State.setFlags_blueFlag (s : State) (r b : Bool) : (s.setFlags r b).blueFlag = b := rfl
@[simp] theorem State.setFlags_dbuf (s : State) (r b : Bool) : (s.setFlags r b).dbuf = s.dbuf := rfl
@[simp] theorem State.setFlags_cursor (s : State) (r b : Bool) : (s.setFlags r b).cursor = s.cursor := rfl
@[simp] theorem State.setFlags_segOut (s : State) (r b : Bool) : (s.setFlags r b).segOut = s.segOut := rfl
@[simp] theorem State.setFlags_digSel (s : State) (r b : Bool) : (s.setFlags r b).digSel = s.digSel := rfl
@[simp] theorem State.setFlags_indRedOut (s : State) (r b : Bool) : (s.setFlags r b).indRedOut = s.indRedOut := rfl
@[simp] theorem State.setFlags_indBlueOut (s : State) (r b : Bool) : (s.setFlags r b).indBlueOut = s.indBlueOut := rfl
@[simp] theorem State.setFlags_rxq (s : State) (r b : Bool) : (s.setFlags r b).rxq = s.rxq := rfl
@[simp] theorem State.setFlags_txq (s : State) (r b : Bool) : (s.setFlags r b).txq = s.txq := rfl
@[simp] theorem State.setFlags_trace (s : State) (r b : Bool) : (s.setFlags r b).trace = s.trace := rfl
@[simp] theorem State.setFlags_agenda (s : State) (r b : Bool) : (s.setFlags r b).agenda = s.agenda := rfl
@[simp] theorem State.setFlags_freeMoves (s : State) (r b : Bool) : (s.setFlags r b).freeMoves = s.freeMoves := rfl

/-! `setDbuf` writes dbuf and nothing else. -/
@[simp] theorem State.setDbuf_fstate (s : State) (d : Vector Byte 6) : (s.setDbuf d).fstate = s.fstate := rfl
@[simp] theorem State.setDbuf_cmd (s : State) (d : Vector Byte 6) : (s.setDbuf d).cmd = s.cmd := rfl
@[simp] theorem State.setDbuf_len (s : State) (d : Vector Byte 6) : (s.setDbuf d).len = s.len := rfl
@[simp] theorem State.setDbuf_data (s : State) (d : Vector Byte 6) : (s.setDbuf d).data = s.data := rfl
@[simp] theorem State.setDbuf_idx (s : State) (d : Vector Byte 6) : (s.setDbuf d).idx = s.idx := rfl
@[simp] theorem State.setDbuf_chk (s : State) (d : Vector Byte 6) : (s.setDbuf d).chk = s.chk := rfl
@[simp] theorem State.setDbuf_indDue (s : State) (d : Vector Byte 6) : (s.setDbuf d).indDue = s.indDue := rfl
@[simp] theorem State.setDbuf_minutes (s : State) (d : Vector Byte 6) : (s.setDbuf d).minutes = s.minutes := rfl
@[simp] theorem State.setDbuf_seconds (s : State) (d : Vector Byte 6) : (s.setDbuf d).seconds = s.seconds := rfl
@[simp] theorem State.setDbuf_redScore (s : State) (d : Vector Byte 6) : (s.setDbuf d).redScore = s.redScore := rfl
@[simp] theorem State.setDbuf_blueScore (s : State) (d : Vector Byte 6) : (s.setDbuf d).blueScore = s.blueScore := rfl
@[simp] theorem State.setDbuf_phase (s : State) (d : Vector Byte 6) : (s.setDbuf d).phase = s.phase := rfl
@[simp] theorem State.setDbuf_redFlag (s : State) (d : Vector Byte 6) : (s.setDbuf d).redFlag = s.redFlag := rfl
@[simp] theorem State.setDbuf_blueFlag (s : State) (d : Vector Byte 6) : (s.setDbuf d).blueFlag = s.blueFlag := rfl
@[simp] theorem State.setDbuf_dbuf (s : State) (d : Vector Byte 6) : (s.setDbuf d).dbuf = d := rfl
@[simp] theorem State.setDbuf_cursor (s : State) (d : Vector Byte 6) : (s.setDbuf d).cursor = s.cursor := rfl
@[simp] theorem State.setDbuf_segOut (s : State) (d : Vector Byte 6) : (s.setDbuf d).segOut = s.segOut := rfl
@[simp] theorem State.setDbuf_digSel (s : State) (d : Vector Byte 6) : (s.setDbuf d).digSel = s.digSel := rfl
@[simp] theorem State.setDbuf_indRedOut (s : State) (d : Vector Byte 6) : (s.setDbuf d).indRedOut = s.indRedOut := rfl
@[simp] theorem State.setDbuf_indBlueOut (s : State) (d : Vector Byte 6) : (s.setDbuf d).indBlueOut = s.indBlueOut := rfl
@[simp] theorem State.setDbuf_rxq (s : State) (d : Vector Byte 6) : (s.setDbuf d).rxq = s.rxq := rfl
@[simp] theorem State.setDbuf_txq (s : State) (d : Vector Byte 6) : (s.setDbuf d).txq = s.txq := rfl
@[simp] theorem State.setDbuf_trace (s : State) (d : Vector Byte 6) : (s.setDbuf d).trace = s.trace := rfl
@[simp] theorem State.setDbuf_agenda (s : State) (d : Vector Byte 6) : (s.setDbuf d).agenda = s.agenda := rfl
@[simp] theorem State.setDbuf_freeMoves (s : State) (d : Vector Byte 6) : (s.setDbuf d).freeMoves = s.freeMoves := rfl

/-! `setCursor` writes cursor and nothing else. -/
@[simp] theorem State.setCursor_fstate (s : State) (c : Fin 6) : (s.setCursor c).fstate = s.fstate := rfl
@[simp] theorem State.setCursor_cmd (s : State) (c : Fin 6) : (s.setCursor c).cmd = s.cmd := rfl
@[simp] theorem State.setCursor_len (s : State) (c : Fin 6) : (s.setCursor c).len = s.len := rfl
@[simp] theorem State.setCursor_data (s : State) (c : Fin 6) : (s.setCursor c).data = s.data := rfl
@[simp] theorem State.setCursor_idx (s : State) (c : Fin 6) : (s.setCursor c).idx = s.idx := rfl
@[simp] theorem State.setCursor_chk (s : State) (c : Fin 6) : (s.setCursor c).chk = s.chk := rfl
@[simp] theorem State.setCursor_indDue (s : State) (c : Fin 6) : (s.setCursor c).indDue = s.indDue := rfl
@[simp] theorem State.setCursor_minutes (s : State) (c : Fin 6) : (s.setCursor c).minutes = s.minutes := rfl
@[simp] theorem State.setCursor_seconds (s : State) (c : Fin 6) : (s.setCursor c).seconds = s.seconds := rfl
@[simp] theorem State.setCursor_redScore (s : State) (c : Fin 6) : (s.setCursor c).redScore = s.redScore := rfl
@[simp] theorem State.setCursor_blueScore (s : State) (c : Fin 6) : (s.setCursor c).blueScore = s.blueScore := rfl
@[simp] theorem State.setCursor_phase (s : State) (c : Fin 6) : (s.setCursor c).phase = s.phase := rfl
@[simp] theorem State.setCursor_redFlag (s : State) (c : Fin 6) : (s.setCursor c).redFlag = s.redFlag := rfl
@[simp] theorem State.setCursor_blueFlag (s : State) (c : Fin 6) : (s.setCursor c).blueFlag = s.blueFlag := rfl
@[simp] theorem State.setCursor_dbuf (s : State) (c : Fin 6) : (s.setCursor c).dbuf = s.dbuf := rfl
@[simp] theorem State.setCursor_cursor (s : State) (c : Fin 6) : (s.setCursor c).cursor = c := rfl
@[simp] theorem State.setCursor_segOut (s : State) (c : Fin 6) : (s.setCursor c).segOut = s.segOut := rfl
@[simp] theorem State.setCursor_digSel (s : State) (c : Fin 6) : (s.setCursor c).digSel = s.digSel := rfl
@[simp] theorem State.setCursor_indRedOut (s : State) (c : Fin 6) : (s.setCursor c).indRedOut = s.indRedOut := rfl
@[simp] theorem State.setCursor_indBlueOut (s : State) (c : Fin 6) : (s.setCursor c).indBlueOut = s.indBlueOut := rfl
@[simp] theorem State.setCursor_rxq (s : State) (c : Fin 6) : (s.setCursor c).rxq = s.rxq := rfl
@[simp] theorem State.setCursor_txq (s : State) (c : Fin 6) : (s.setCursor c).txq = s.txq := rfl
@[simp] theorem State.setCursor_trace (s : State) (c : Fin 6) : (s.setCursor c).trace = s.trace := rfl
@[simp] theorem State.setCursor_agenda (s : State) (c : Fin 6) : (s.setCursor c).agenda = s.agenda := rfl
@[simp] theorem State.setCursor_freeMoves (s : State) (c : Fin 6) : (s.setCursor c).freeMoves = s.freeMoves := rfl

/-! `setSegOut` writes segOut and nothing else. -/
@[simp] theorem State.setSegOut_fstate (s : State) (v : BitVec 7) : (s.setSegOut v).fstate = s.fstate := rfl
@[simp] theorem State.setSegOut_cmd (s : State) (v : BitVec 7) : (s.setSegOut v).cmd = s.cmd := rfl
@[simp] theorem State.setSegOut_len (s : State) (v : BitVec 7) : (s.setSegOut v).len = s.len := rfl
@[simp] theorem State.setSegOut_data (s : State) (v : BitVec 7) : (s.setSegOut v).data = s.data := rfl
@[simp] theorem State.setSegOut_idx (s : State) (v : BitVec 7) : (s.setSegOut v).idx = s.idx := rfl
@[simp] theorem State.setSegOut_chk (s : State) (v : BitVec 7) : (s.setSegOut v).chk = s.chk := rfl
@[simp] theorem State.setSegOut_indDue (s : State) (v : BitVec 7) : (s.setSegOut v).indDue = s.indDue := rfl
@[simp] theorem State.setSegOut_minutes (s : State) (v : BitVec 7) : (s.setSegOut v).minutes = s.minutes := rfl
@[simp] theorem State.setSegOut_seconds (s : State) (v : BitVec 7) : (s.setSegOut v).seconds = s.seconds := rfl
@[simp] theorem State.setSegOut_redScore (s : State) (v : BitVec 7) : (s.setSegOut v).redScore = s.redScore := rfl
@[simp] theorem State.setSegOut_blueScore (s : State) (v : BitVec 7) : (s.setSegOut v).blueScore = s.blueScore := rfl
@[simp] theorem State.setSegOut_phase (s : State) (v : BitVec 7) : (s.setSegOut v).phase = s.phase := rfl
@[simp] theorem State.setSegOut_redFlag (s : State) (v : BitVec 7) : (s.setSegOut v).redFlag = s.redFlag := rfl
@[simp] theorem State.setSegOut_blueFlag (s : State) (v : BitVec 7) : (s.setSegOut v).blueFlag = s.blueFlag := rfl
@[simp] theorem State.setSegOut_dbuf (s : State) (v : BitVec 7) : (s.setSegOut v).dbuf = s.dbuf := rfl
@[simp] theorem State.setSegOut_cursor (s : State) (v : BitVec 7) : (s.setSegOut v).cursor = s.cursor := rfl
@[simp] theorem State.setSegOut_segOut (s : State) (v : BitVec 7) : (s.setSegOut v).segOut = v := rfl
@[simp] theorem State.setSegOut_digSel (s : State) (v : BitVec 7) : (s.setSegOut v).digSel = s.digSel := rfl
@[simp] theorem State.setSegOut_indRedOut (s : State) (v : BitVec 7) : (s.setSegOut v).indRedOut = s.indRedOut := rfl
@[simp] theorem State.setSegOut_indBlueOut (s : State) (v : BitVec 7) : (s.setSegOut v).indBlueOut = s.indBlueOut := rfl
@[simp] theorem State.setSegOut_rxq (s : State) (v : BitVec 7) : (s.setSegOut v).rxq = s.rxq := rfl
@[simp] theorem State.setSegOut_txq (s : State) (v : BitVec 7) : (s.setSegOut v).txq = s.txq := rfl
@[simp] theorem State.setSegOut_trace (s : State) (v : BitVec 7) : (s.setSegOut v).trace = s.trace := rfl
@[simp] theorem State.setSegOut_agenda (s : State) (v : BitVec 7) : (s.setSegOut v).agenda = s.agenda := rfl
@[simp] theorem State.setSegOut_freeMoves (s : State) (v : BitVec 7) : (s.setSegOut v).freeMoves = s.freeMoves := rfl

/-! `setDigSel` writes digSel and nothing else. -/
@[simp] theorem State.setDigSel_fstate (s : State) (v : BitVec 6) : (s.setDigSel v).fstate = s.fstate := rfl
@[simp] theorem State.setDigSel_cmd (s : State) (v : BitVec 6) : (s.setDigSel v).cmd = s.cmd := rfl
@[simp] theorem State.setDigSel_len (s : State) (v : BitVec 6) : (s.setDigSel v).len = s.len := rfl
@[simp] theorem State.setDigSel_data (s : State) (v : BitVec 6) : (s.setDigSel v).data = s.data := rfl
@[simp] theorem State.setDigSel_idx (s : State) (v : BitVec 6) : (s.setDigSel v).idx = s.idx := rfl
@[simp] theorem State.setDigSel_chk (s : State) (v : BitVec 6) : (s.setDigSel v).chk = s.chk := rfl
@[simp] theorem State.setDigSel_indDue (s : State) (v : BitVec 6) : (s.setDigSel v).indDue = s.indDue := rfl
@[simp] theorem State.setDigSel_minutes (s : State) (v : BitVec 6) : (s.setDigSel v).minutes = s.minutes := rfl
@[simp] theorem State.setDigSel_seconds (s : State) (v : BitVec 6) : (s.setDigSel v).seconds = s.seconds := rfl
@[simp] theorem State.setDigSel_redScore (s : State) (v : BitVec 6) : (s.setDigSel v).redScore = s.redScore := rfl
@[simp] theorem State.setDigSel_blueScore (s : State) (v : BitVec 6) : (s.setDigSel v).blueScore = s.blueScore := rfl
@[simp] theorem State.setDigSel_phase (s : State) (v : BitVec 6) : (s.setDigSel v).phase = s.phase := rfl
@[simp] theorem State.setDigSel_redFlag (s : State) (v : BitVec 6) : (s.setDigSel v).redFlag = s.redFlag := rfl
@[simp] theorem State.setDigSel_blueFlag (s : State) (v : BitVec 6) : (s.setDigSel v).blueFlag = s.blueFlag := rfl
@[simp] theorem State.setDigSel_dbuf (s : State) (v : BitVec 6) : (s.setDigSel v).dbuf = s.dbuf := rfl
@[simp] theorem State.setDigSel_cursor (s : State) (v : BitVec 6) : (s.setDigSel v).cursor = s.cursor := rfl
@[simp] theorem State.setDigSel_segOut (s : State) (v : BitVec 6) : (s.setDigSel v).segOut = s.segOut := rfl
@[simp] theorem State.setDigSel_digSel (s : State) (v : BitVec 6) : (s.setDigSel v).digSel = v := rfl
@[simp] theorem State.setDigSel_indRedOut (s : State) (v : BitVec 6) : (s.setDigSel v).indRedOut = s.indRedOut := rfl
@[simp] theorem State.setDigSel_indBlueOut (s : State) (v : BitVec 6) : (s.setDigSel v).indBlueOut = s.indBlueOut := rfl
@[simp] theorem State.setDigSel_rxq (s : State) (v : BitVec 6) : (s.setDigSel v).rxq = s.rxq := rfl
@[simp] theorem State.setDigSel_txq (s : State) (v : BitVec 6) : (s.setDigSel v).txq = s.txq := rfl
@[simp] theorem State.setDigSel_trace (s : State) (v : BitVec 6) : (s.setDigSel v).trace = s.trace := rfl
@[simp] theorem State.setDigSel_agenda (s : State) (v : BitVec 6) : (s.setDigSel v).agenda = s.agenda := rfl
@[simp] theorem State.setDigSel_freeMoves (s : State) (v : BitVec 6) : (s.setDigSel v).freeMoves = s.freeMoves := rfl

/-! `setIndicators` writes indRedOut, indBlueOut and nothing else. -/
@[simp] theorem State.setIndicators_fstate (s : State) (r b : Bool) : (s.setIndicators r b).fstate = s.fstate := rfl
@[simp] theorem State.setIndicators_cmd (s : State) (r b : Bool) : (s.setIndicators r b).cmd = s.cmd := rfl
@[simp] theorem State.setIndicators_len (s : State) (r b : Bool) : (s.setIndicators r b).len = s.len := rfl
@[simp] theorem State.setIndicators_data (s : State) (r b : Bool) : (s.setIndicators r b).data = s.data := rfl
@[simp] theorem State.setIndicators_idx (s : State) (r b : Bool) : (s.setIndicators r b).idx = s.idx := rfl
@[simp] theorem State.setIndicators_chk (s : State) (r b : Bool) : (s.setIndicators r b).chk = s.chk := rfl
@[simp] theorem State.setIndicators_indDue (s : State) (r b : Bool) : (s.setIndicators r b).indDue = s.indDue := rfl
@[simp] theorem State.setIndicators_minutes (s : State) (r b : Bool) : (s.setIndicators r b).minutes = s.minutes := rfl
@[simp] theorem State.setIndicators_seconds (s : State) (r b : Bool) : (s.setIndicators r b).seconds = s.seconds := rfl
@[simp] theorem State.setIndicators_redScore (s : State) (r b : Bool) : (s.setIndicators r b).redScore = s.redScore := rfl
@[simp] theorem State.setIndicators_blueScore (s : State) (r b : Bool) : (s.setIndicators r b).blueScore = s.blueScore := rfl
@[simp] theorem State.setIndicators_phase (s : State) (r b : Bool) : (s.setIndicators r b).phase = s.phase := rfl
@[simp] theorem State.setIndicators_redFlag (s : State) (r b : Bool) : (s.setIndicators r b).redFlag = s.redFlag := rfl
@[simp] theorem State.setIndicators_blueFlag (s : State) (r b : Bool) : (s.setIndicators r b).blueFlag = s.blueFlag := rfl
@[simp] theorem State.setIndicators_dbuf (s : State) (r b : Bool) : (s.setIndicators r b).dbuf = s.dbuf := rfl
@[simp] theorem State.setIndicators_cursor (s : State) (r b : Bool) : (s.setIndicators r b).cursor = s.cursor := rfl
@[simp] theorem State.setIndicators_segOut (s : State) (r b : Bool) : (s.setIndicators r b).segOut = s.segOut := rfl
@[simp] theorem State.setIndicators_digSel (s : State) (r b : Bool) : (s.setIndicators r b).digSel = s.digSel := rfl
@[simp] theorem State.setIndicators_indRedOut (s : State) (r b : Bool) : (s.setIndicators r b).indRedOut = r := rfl
@[simp] theorem State.setIndicators_indBlueOut (s : State) (r b : Bool) : (s.setIndicators r b).indBlueOut = b := rfl
@[simp] theorem State.setIndicators_rxq (s : State) (r b : Bool) : (s.setIndicators r b).rxq = s.rxq := rfl
@[simp] theorem State.setIndicators_txq (s : State) (r b : Bool) : (s.setIndicators r b).txq = s.txq := rfl
@[simp] theorem State.setIndicators_trace (s : State) (r b : Bool) : (s.setIndicators r b).trace = s.trace := rfl
@[simp] theorem State.setIndicators_agenda (s : State) (r b : Bool) : (s.setIndicators r b).agenda = s.agenda := rfl
@[simp] theorem State.setIndicators_freeMoves (s : State) (r b : Bool) : (s.setIndicators r b).freeMoves = s.freeMoves := rfl

/-! `setRxq` writes rxq and nothing else. -/
@[simp] theorem State.setRxq_fstate (s : State) (q : List RxEvent) : (s.setRxq q).fstate = s.fstate := rfl
@[simp] theorem State.setRxq_cmd (s : State) (q : List RxEvent) : (s.setRxq q).cmd = s.cmd := rfl
@[simp] theorem State.setRxq_len (s : State) (q : List RxEvent) : (s.setRxq q).len = s.len := rfl
@[simp] theorem State.setRxq_data (s : State) (q : List RxEvent) : (s.setRxq q).data = s.data := rfl
@[simp] theorem State.setRxq_idx (s : State) (q : List RxEvent) : (s.setRxq q).idx = s.idx := rfl
@[simp] theorem State.setRxq_chk (s : State) (q : List RxEvent) : (s.setRxq q).chk = s.chk := rfl
@[simp] theorem State.setRxq_indDue (s : State) (q : List RxEvent) : (s.setRxq q).indDue = s.indDue := rfl
@[simp] theorem State.setRxq_minutes (s : State) (q : List RxEvent) : (s.setRxq q).minutes = s.minutes := rfl
@[simp] theorem State.setRxq_seconds (s : State) (q : List RxEvent) : (s.setRxq q).seconds = s.seconds := rfl
@[simp] theorem State.setRxq_redScore (s : State) (q : List RxEvent) : (s.setRxq q).redScore = s.redScore := rfl
@[simp] theorem State.setRxq_blueScore (s : State) (q : List RxEvent) : (s.setRxq q).blueScore = s.blueScore := rfl
@[simp] theorem State.setRxq_phase (s : State) (q : List RxEvent) : (s.setRxq q).phase = s.phase := rfl
@[simp] theorem State.setRxq_redFlag (s : State) (q : List RxEvent) : (s.setRxq q).redFlag = s.redFlag := rfl
@[simp] theorem State.setRxq_blueFlag (s : State) (q : List RxEvent) : (s.setRxq q).blueFlag = s.blueFlag := rfl
@[simp] theorem State.setRxq_dbuf (s : State) (q : List RxEvent) : (s.setRxq q).dbuf = s.dbuf := rfl
@[simp] theorem State.setRxq_cursor (s : State) (q : List RxEvent) : (s.setRxq q).cursor = s.cursor := rfl
@[simp] theorem State.setRxq_segOut (s : State) (q : List RxEvent) : (s.setRxq q).segOut = s.segOut := rfl
@[simp] theorem State.setRxq_digSel (s : State) (q : List RxEvent) : (s.setRxq q).digSel = s.digSel := rfl
@[simp] theorem State.setRxq_indRedOut (s : State) (q : List RxEvent) : (s.setRxq q).indRedOut = s.indRedOut := rfl
@[simp] theorem State.setRxq_indBlueOut (s : State) (q : List RxEvent) : (s.setRxq q).indBlueOut = s.indBlueOut := rfl
@[simp] theorem State.setRxq_rxq (s : State) (q : List RxEvent) : (s.setRxq q).rxq = q := rfl
@[simp] theorem State.setRxq_txq (s : State) (q : List RxEvent) : (s.setRxq q).txq = s.txq := rfl
@[simp] theorem State.setRxq_trace (s : State) (q : List RxEvent) : (s.setRxq q).trace = s.trace := rfl
@[simp] theorem State.setRxq_agenda (s : State) (q : List RxEvent) : (s.setRxq q).agenda = s.agenda := rfl
@[simp] theorem State.setRxq_freeMoves (s : State) (q : List RxEvent) : (s.setRxq q).freeMoves = s.freeMoves := rfl

/-! `setTxq` writes txq and nothing else. -/
@[simp] theorem State.setTxq_fstate (s : State) (q : List Byte) : (s.setTxq q).fstate = s.fstate := rfl
@[simp] theorem State.setTxq_cmd (s : State) (q : List Byte) : (s.setTxq q).cmd = s.cmd := rfl
@[simp] theorem State.setTxq_len (s : State) (q : List Byte) : (s.setTxq q).len = s.len := rfl
@[simp] theorem State.setTxq_data (s : State) (q : List Byte) : (s.setTxq q).data = s.data := rfl
@[simp] theorem State.setTxq_idx (s : State) (q : List Byte) : (s.setTxq q).idx = s.idx := rfl
@[simp] theorem State.setTxq_chk (s : State) (q : List Byte) : (s.setTxq q).chk = s.chk := rfl
@[simp] theorem State.setTxq_indDue (s : State) (q : List Byte) : (s.setTxq q).indDue = s.indDue := rfl
@[simp] theorem State.setTxq_minutes (s : State) (q : List Byte) : (s.setTxq q).minutes = s.minutes := rfl
@[simp] theorem State.setTxq_seconds (s : State) (q : List Byte) : (s.setTxq q).seconds = s.seconds := rfl
@[simp] theorem State.setTxq_redScore (s : State) (q : List Byte) : (s.setTxq q).redScore = s.redScore := rfl
@[simp] theorem State.setTxq_blueScore (s : State) (q : List Byte) : (s.setTxq q).blueScore = s.blueScore := rfl
@[simp] theorem State.setTxq_phase (s : State) (q : List Byte) : (s.setTxq q).phase = s.phase := rfl
@[simp] theorem State.setTxq_redFlag (s : State) (q : List Byte) : (s.setTxq q).redFlag = s.redFlag := rfl
@[simp] theorem State.setTxq_blueFlag (s : State) (q : List Byte) : (s.setTxq q).blueFlag = s.blueFlag := rfl
@[simp] theorem State.setTxq_dbuf (s : State) (q : List Byte) : (s.setTxq q).dbuf = s.dbuf := rfl
@[simp] theorem State.setTxq_cursor (s : State) (q : List Byte) : (s.setTxq q).cursor = s.cursor := rfl
@[simp] theorem State.setTxq_segOut (s : State) (q : List Byte) : (s.setTxq q).segOut = s.segOut := rfl
@[simp] theorem State.setTxq_digSel (s : State) (q : List Byte) : (s.setTxq q).digSel = s.digSel := rfl
@[simp] theorem State.setTxq_indRedOut (s : State) (q : List Byte) : (s.setTxq q).indRedOut = s.indRedOut := rfl
@[simp] theorem State.setTxq_indBlueOut (s : State) (q : List Byte) : (s.setTxq q).indBlueOut = s.indBlueOut := rfl
@[simp] theorem State.setTxq_rxq (s : State) (q : List Byte) : (s.setTxq q).rxq = s.rxq := rfl
@[simp] theorem State.setTxq_txq (s : State) (q : List Byte) : (s.setTxq q).txq = q := rfl
@[simp] theorem State.setTxq_trace (s : State) (q : List Byte) : (s.setTxq q).trace = s.trace := rfl
@[simp] theorem State.setTxq_agenda (s : State) (q : List Byte) : (s.setTxq q).agenda = s.agenda := rfl
@[simp] theorem State.setTxq_freeMoves (s : State) (q : List Byte) : (s.setTxq q).freeMoves = s.freeMoves := rfl

/-! `record` writes trace and nothing else. -/
@[simp] theorem State.record_fstate (s : State) (o : Observation) : (s.record o).fstate = s.fstate := rfl
@[simp] theorem State.record_cmd (s : State) (o : Observation) : (s.record o).cmd = s.cmd := rfl
@[simp] theorem State.record_len (s : State) (o : Observation) : (s.record o).len = s.len := rfl
@[simp] theorem State.record_data (s : State) (o : Observation) : (s.record o).data = s.data := rfl
@[simp] theorem State.record_idx (s : State) (o : Observation) : (s.record o).idx = s.idx := rfl
@[simp] theorem State.record_chk (s : State) (o : Observation) : (s.record o).chk = s.chk := rfl
@[simp] theorem State.record_indDue (s : State) (o : Observation) : (s.record o).indDue = s.indDue := rfl
@[simp] theorem State.record_minutes (s : State) (o : Observation) : (s.record o).minutes = s.minutes := rfl
@[simp] theorem State.record_seconds (s : State) (o : Observation) : (s.record o).seconds = s.seconds := rfl
@[simp] theorem State.record_redScore (s : State) (o : Observation) : (s.record o).redScore = s.redScore := rfl
@[simp] theorem State.record_blueScore (s : State) (o : Observation) : (s.record o).blueScore = s.blueScore := rfl
@[simp] theorem State.record_phase (s : State) (o : Observation) : (s.record o).phase = s.phase := rfl
@[simp] theorem State.record_redFlag (s : State) (o : Observation) : (s.record o).redFlag = s.redFlag := rfl
@[simp] theorem State.record_blueFlag (s : State) (o : Observation) : (s.record o).blueFlag = s.blueFlag := rfl
@[simp] theorem State.record_dbuf (s : State) (o : Observation) : (s.record o).dbuf = s.dbuf := rfl
@[simp] theorem State.record_cursor (s : State) (o : Observation) : (s.record o).cursor = s.cursor := rfl
@[simp] theorem State.record_segOut (s : State) (o : Observation) : (s.record o).segOut = s.segOut := rfl
@[simp] theorem State.record_digSel (s : State) (o : Observation) : (s.record o).digSel = s.digSel := rfl
@[simp] theorem State.record_indRedOut (s : State) (o : Observation) : (s.record o).indRedOut = s.indRedOut := rfl
@[simp] theorem State.record_indBlueOut (s : State) (o : Observation) : (s.record o).indBlueOut = s.indBlueOut := rfl
@[simp] theorem State.record_rxq (s : State) (o : Observation) : (s.record o).rxq = s.rxq := rfl
@[simp] theorem State.record_txq (s : State) (o : Observation) : (s.record o).txq = s.txq := rfl
@[simp] theorem State.record_trace (s : State) (o : Observation) : (s.record o).trace = s.trace ++ [o] := rfl
@[simp] theorem State.record_agenda (s : State) (o : Observation) : (s.record o).agenda = s.agenda := rfl
@[simp] theorem State.record_freeMoves (s : State) (o : Observation) : (s.record o).freeMoves = s.freeMoves := rfl

/-! `setMoves` writes agenda, freeMoves and nothing else. -/
@[simp] theorem State.setMoves_fstate (s : State) (a : List Move) (n : Nat) : (s.setMoves a n).fstate = s.fstate := rfl
@[simp] theorem State.setMoves_cmd (s : State) (a : List Move) (n : Nat) : (s.setMoves a n).cmd = s.cmd := rfl
@[simp] theorem State.setMoves_len (s : State) (a : List Move) (n : Nat) : (s.setMoves a n).len = s.len := rfl
@[simp] theorem State.setMoves_data (s : State) (a : List Move) (n : Nat) : (s.setMoves a n).data = s.data := rfl
@[simp] theorem State.setMoves_idx (s : State) (a : List Move) (n : Nat) : (s.setMoves a n).idx = s.idx := rfl
@[simp] theorem State.setMoves_chk (s : State) (a : List Move) (n : Nat) : (s.setMoves a n).chk = s.chk := rfl
@[simp] theorem State.setMoves_indDue (s : State) (a : List Move) (n : Nat) : (s.setMoves a n).indDue = s.indDue := rfl
@[simp] theorem State.setMoves_minutes (s : State) (a : List Move) (n : Nat) : (s.setMoves a n).minutes = s.minutes := rfl
@[simp] theorem State.setMoves_seconds (s : State) (a : List Move) (n : Nat) : (s.setMoves a n).seconds = s.seconds := rfl
@[simp] theorem State.setMoves_redScore (s : State) (a : List Move) (n : Nat) : (s.setMoves a n).redScore = s.redScore := rfl
@[simp] theorem State.setMoves_blueScore (s : State) (a : List Move) (n : Nat) : (s.setMoves a n).blueScore = s.blueScore := rfl
@[simp] theorem State.setMoves_phase (s : State) (a : List Move) (n : Nat) : (s.setMoves a n).phase = s.phase := rfl
@[simp] theorem State.setMoves_redFlag (s : State) (a : List Move) (n : Nat) : (s.setMoves a n).redFlag = s.redFlag := rfl
@[simp] theorem State.setMoves_blueFlag (s : State) (a : List Move) (n : Nat) : (s.setMoves a n).blueFlag = s.blueFlag := rfl
@[simp] theorem State.setMoves_dbuf (s : State) (a : List Move) (n : Nat) : (s.setMoves a n).dbuf = s.dbuf := rfl
@[simp] theorem State.setMoves_cursor (s : State) (a : List Move) (n : Nat) : (s.setMoves a n).cursor = s.cursor := rfl
@[simp] theorem State.setMoves_segOut (s : State) (a : List Move) (n : Nat) : (s.setMoves a n).segOut = s.segOut := rfl
@[simp] theorem State.setMoves_digSel (s : State) (a : List Move) (n : Nat) : (s.setMoves a n).digSel = s.digSel := rfl
@[simp] theorem State.setMoves_indRedOut (s : State) (a : List Move) (n : Nat) : (s.setMoves a n).indRedOut = s.indRedOut := rfl
@[simp] theorem State.setMoves_indBlueOut (s : State) (a : List Move) (n : Nat) : (s.setMoves a n).indBlueOut = s.indBlueOut := rfl
@[simp] theorem State.setMoves_rxq (s : State) (a : List Move) (n : Nat) : (s.setMoves a n).rxq = s.rxq := rfl
@[simp] theorem State.setMoves_txq (s : State) (a : List Move) (n : Nat) : (s.setMoves a n).txq = s.txq := rfl
@[simp] theorem State.setMoves_trace (s : State) (a : List Move) (n : Nat) : (s.setMoves a n).trace = s.trace := rfl
@[simp] theorem State.setMoves_agenda (s : State) (a : List Move) (n : Nat) : (s.setMoves a n).agenda = a := rfl
@[simp] theorem State.setMoves_freeMoves (s : State) (a : List Move) (n : Nat) : (s.setMoves a n).freeMoves = n := rfl

end Sys2Proof.Machine
end

