-- ==== Sys2Proof/Laws/Ops.lean ====
section
/-! SUPPORT. What each shared operation does, said once: its closed form, or what holds if it answers a next state. -/

namespace Sys2Proof.Machine

theorem emitTx_eq (s : State) (bytes : List Byte) : s.emitTx bytes = { s with txq := s.txq ++ bytes } := rfl

theorem appendRx_eq (s : State) (e : RxEvent) : s.appendRx e = { s with rxq := s.rxq ++ [e] } := rfl

theorem pins_eq (s : State) : s.pins = { s with trace := s.trace ++ [.pins s.segOut s.digSel] } := rfl

theorem endInvocation_eq (s : State) : s.endInvocation = { s with fstate := .waitStart, indDue := true } := rfl

theorem dropPacket_eq (s : State) (l : Label) :
    s.dropPacket l = { s with fstate := .waitStart, indDue := true, trace := s.trace ++ [.label l] } := rfl

theorem commitLabel_eq (s : State) (cmd : Byte) (e : CommitEffect) :
    s.commitLabel cmd e = { s with trace := s.trace ++ [.label (.commit cmd e)] } := rfl

theorem enterPhase_eq (s : State) (p : Phase) (v : Bool) :
    s.enterPhase p v = { s with phase := p, redFlag := v, blueFlag := v } := rfl

theorem indicatorUpdate_eq (s : State) :
    indicatorUpdate s = { s with indRedOut := s.redLive, indBlueOut := s.blueLive, indDue := false } := rfl

/-- The rebuild answers only with `DBUF` rewritten by the build of the state's own values. -/
theorem rebuildDisplay_next {s t : State} (h : s.rebuildDisplay = .next t) :
    ∃ d, build s.minutes s.seconds s.redScore = some d ∧ t = { s with dbuf := d } := by
  unfold State.rebuildDisplay at h
  split at h
  · rename_i d hd
    exact ⟨d, hd, (Host.Outcome.next.inj h).symm⟩
  · cases h

theorem rebuildDisplay_of_build {s : State} {d : Vector Byte 6} (h : build s.minutes s.seconds s.redScore = some d) :
    s.rebuildDisplay = .next { s with dbuf := d } := by
  simp only [State.rebuildDisplay, h]; rfl

theorem setAllianceFlag_red (s : State) (v : Bool) : s.setAllianceFlag .red v = { s with redFlag := v } := rfl

theorem setAllianceFlag_blue (s : State) (v : Bool) : s.setAllianceFlag .blue v = { s with blueFlag := v } := rfl

/-- Overwriting from `k` leaves the entries before `k`, puts the bytes, and leaves the entries after them. -/
theorem overwriteData_toList (bs : List Byte) : ∀ (k : Nat) (v : Vector Byte 10), k + bs.length ≤ 10 →
    (overwriteData k bs v).toList = v.toList.take k ++ bs ++ v.toList.drop (k + bs.length) := by
  induction bs with
  | nil => intro k v _; simp [overwriteData]
  | cons b bs ih =>
    intro k v h
    simp only [List.length_cons] at h
    rw [overwriteData, ih (k + 1) _ (by omega), Vector.toList_setIfInBounds]
    have hk : k < v.toList.length := by simp; omega
    rw [List.take_set, List.drop_set_of_lt (by omega), List.take_add_one, List.getElem?_eq_getElem hk]
    simp only [Option.toList_some, List.length_cons]
    rw [List.set_append_right _ _ (by simp)]
    have : k - (List.take k v.toList).length = 0 := by simp; omega
    rw [this]
    simp [Nat.add_assoc, Nat.add_comm 1]

end Sys2Proof.Machine
end

