-- ==== Sys2Proof/Laws/Commands.lean ====
section
/-! SUPPORT. What each command does if it answers a next state (spec 41_commands.md R121 to R128). -/

namespace Sys2Proof.Machine

theorem twoOperands_eq_none {data : List Byte} : twoOperands data = none ↔ data.length < 2 := by
  match data with
  | [] => simp [twoOperands]
  | [_] => simp [twoOperands]
  | _ :: _ :: _ => simp [twoOperands]

theorem execUpdateScore_next {data : List Byte} {s t : State} (h : execUpdateScore data s = .next t) :
    (∃ e, t = s.commitLabel 0x01 e) ∨
    (∃ red blue d, twoOperands data = some (red, blue) ∧ red.toNat ≤ 99 ∧ blue.toNat ≤ 99 ∧
      build s.minutes s.seconds red = some d ∧
      t = { s with redScore := red, blueScore := blue, dbuf := d,
                   trace := s.trace ++ [.label (.commit 0x01 .applied)] }) := by
  unfold execUpdateScore at h
  split at h
  · exact .inl ⟨_, (Host.Outcome.next.inj h).symm⟩
  · rename_i red blue hd
    split at h
    · rename_i hr
      obtain ⟨d, hb, rfl⟩ := rebuildDisplay_next h
      simp only [scoresInRange, Bool.and_eq_true, decide_eq_true_eq] at hr
      exact .inr ⟨red, blue, d, hd, hr.1, hr.2, hb, rfl⟩
    · exact .inl ⟨_, (Host.Outcome.next.inj h).symm⟩

theorem execUpdateTimer_next {data : List Byte} {s t : State} (h : execUpdateTimer data s = .next t) :
    (∃ e, t = s.commitLabel 0x02 e) ∨
    (∃ m c d, twoOperands data = some (m, c) ∧ m.toNat ≤ 99 ∧ c.toNat ≤ 59 ∧
      build m c s.redScore = some d ∧
      t = { s with minutes := m, seconds := c, dbuf := d,
                   trace := s.trace ++ [.label (.commit 0x02 .applied)] }) := by
  unfold execUpdateTimer at h
  split at h
  · exact .inl ⟨_, (Host.Outcome.next.inj h).symm⟩
  · rename_i m c hd
    split at h
    · rename_i hr
      obtain ⟨d, hb, rfl⟩ := rebuildDisplay_next h
      simp only [timerInRange, Bool.and_eq_true, decide_eq_true_eq] at hr
      exact .inr ⟨m, c, d, hd, hr.1, hr.2, hb, rfl⟩
    · exact .inl ⟨_, (Host.Outcome.next.inj h).symm⟩

theorem execStartMatch_next {data : List Byte} {s t : State} (h : execStartMatch data s = .next t) :
    t = (s.enterPhase .active true).commitLabel 0x03 .applied := (Host.Outcome.next.inj h).symm

theorem execStopMatch_next {data : List Byte} {s t : State} (h : execStopMatch data s = .next t) :
    t = (s.enterPhase .paused false).commitLabel 0x04 .applied := (Host.Outcome.next.inj h).symm

theorem execResetMatch_eq (data : List Byte) (s : State) :
    execResetMatch data s = .next { s with
      minutes := Config.defaultMinutes, seconds := Config.defaultSeconds, redScore := Config.defaultScore,
      blueScore := Config.defaultScore, phase := .idle, redFlag := false, blueFlag := false, dbuf := resetBuffer,
      trace := s.trace ++ [.label (.commit 0x05 .applied)] } :=
  rebuildDisplay_of_build build_defaults

theorem execPing_next {data : List Byte} {s t : State} (h : execPing data s = .next t) :
    t = (s.emitTx pingReply).commitLabel 0x06 .applied := (Host.Outcome.next.inj h).symm

theorem execSetLed_next {data : List Byte} {s t : State} (h : execSetLed data s = .next t) :
    (∃ e, t = s.commitLabel 0x07 e) ∨
    (∃ alliance state a v, twoOperands data = some (alliance, state) ∧ allianceOf alliance = some a ∧
      setLedState state = some v ∧ t = (s.setAllianceFlag a v).commitLabel 0x07 .applied) := by
  unfold execSetLed at h
  split at h
  · exact .inl ⟨_, (Host.Outcome.next.inj h).symm⟩
  · rename_i alliance state hd
    split at h
    · rename_i a v ha hv
      exact .inr ⟨alliance, state, a, v, hd, ha, hv, (Host.Outcome.next.inj h).symm⟩
    · exact .inl ⟨_, (Host.Outcome.next.inj h).symm⟩
    · exact .inl ⟨_, (Host.Outcome.next.inj h).symm⟩
    · exact .inl ⟨_, (Host.Outcome.next.inj h).symm⟩

theorem execUnknown_next {code : Byte} {data : List Byte} {s t : State} (h : execUnknown code data s = .next t) :
    t = s.commitLabel code .noopUnknown := (Host.Outcome.next.inj h).symm

/-- A commit writes match state, `DBUF` and `TXQ` at most (10_state.md R43), beside its label. -/
theorem exec_next_writes {i : Instr} {s t : State} (h : exec i s = .next t) :
    t = { s with minutes := t.minutes, seconds := t.seconds, redScore := t.redScore, blueScore := t.blueScore,
                 phase := t.phase, redFlag := t.redFlag, blueFlag := t.blueFlag, dbuf := t.dbuf, txq := t.txq,
                 trace := t.trace } := by
  cases i with
  | updateScore data => obtain ⟨e, rfl⟩ | ⟨_, _, _, _, _, _, _, rfl⟩ := execUpdateScore_next h <;> rfl
  | updateTimer data => obtain ⟨e, rfl⟩ | ⟨_, _, _, _, _, _, _, rfl⟩ := execUpdateTimer_next h <;> rfl
  | startMatch data => cases h; rfl
  | stopMatch data => cases h; rfl
  | resetMatch data =>
    rw [show exec (.resetMatch data) s = _ from execResetMatch_eq data s] at h
    cases h; rfl
  | ping data => cases h; rfl
  | setLed data =>
    obtain ⟨e, rfl⟩ | ⟨_, _, a, _, _, _, _, rfl⟩ := execSetLed_next h
    · rfl
    · cases a <;> rfl
  | unknown code data => cases h; rfl

end Sys2Proof.Machine
end

