-- ==== Sys2Proof/Laws/Framer.lean ====
section
/-! SUPPORT. What F's step and T's step do (spec 40_framer.md R100 to R109, 42_display.md R146). -/

namespace Sys2Proof.Machine

/-- Everything F's step can be (R100). -/
theorem foreground_cases (s : State) :
    (s.fstate = .waitStart ∧ s.indDue = true ∧ foreground s = .next (indicatorUpdate s)) ∨
    (¬(s.fstate = .waitStart ∧ s.indDue = true) ∧
      ((s.rxq = [] ∧ foreground s = .next s) ∨
       (∃ rest, s.rxq = .timeout :: rest ∧ foreground s = .next (timeoutStep (s.setRxq rest))) ∨
       (∃ b rest, s.rxq = .byte b :: rest ∧ foreground s = byteStep b (s.setRxq rest)))) := by
  by_cases hd : s.fstate = .waitStart ∧ s.indDue = true
  · exact .inl ⟨hd.1, hd.2, by simp [foreground, hd]⟩
  · refine .inr ⟨hd, ?_⟩
    match hq : s.rxq with
    | [] => exact .inl ⟨rfl, by simp [foreground, hd, hq]⟩
    | .timeout :: rest => exact .inr (.inl ⟨rest, rfl, by simp [foreground, hd, hq]⟩)
    | .byte b :: rest => exact .inr (.inr ⟨b, rest, rfl, by simp [foreground, hd, hq]⟩)

/-- A data byte that is taken at all lies at `DATA[IDX]` with `IDX < 10`. -/
theorem readDataStep_next {b : Byte} {s t : State} (h : readDataStep b s = .next t) :
    s.idx.val < 10 ∧ (s.idx + 1).val = s.idx.val + 1 ∧
      t = { s with data := s.data.setIfInBounds s.idx.val b, idx := s.idx + 1,
                   fstate := if s.idx.val + 1 = s.len.toNat then .readChk else s.fstate } := by
  unfold readDataStep at h
  split at h
  · rename_i hi
    have hv : (s.idx + 1).val = s.idx.val + 1 := by
      rw [Fin.val_add_one_of_lt']; omega
    refine ⟨hi, hv, ?_⟩
    rw [← Host.Outcome.next.inj h]
    simp only [State.setIdx_idx, State.setIdx_len, State.setData_len, hv]
    split <;> rfl
  · cases h

/-- What the end-marker step can answer (R106). -/
theorem readEndStep_next {b : Byte} {s t : State} (h : readEndStep b s = .next t) :
    (b ≠ Config.endMarker ∧ t = s.dropPacket .dropEnd) ∨
    (b = Config.endMarker ∧ s.len.toNat ≤ Config.maxLen ∧ s.chk ≠ xorFold s.cmd s.len s.payload ∧
      t = s.dropPacket .dropChecksum) ∨
    (b = Config.endMarker ∧ s.len.toNat ≤ Config.maxLen ∧ s.chk = xorFold s.cmd s.len s.payload ∧
      exec (decodeCommand s.cmd s.payload) s.endInvocation = .next t) := by
  unfold readEndStep at h
  split at h
  · rename_i hb
    exact .inl ⟨hb, (Host.Outcome.next.inj h).symm⟩
  · rename_i hb
    split at h
    · cases h
    · rename_i hl
      split at h
      · rename_i hc
        exact .inr (.inl ⟨not_not.mp hb, Nat.le_of_not_lt hl, hc, (Host.Outcome.next.inj h).symm⟩)
      · rename_i hc
        exact .inr (.inr ⟨not_not.mp hb, Nat.le_of_not_lt hl, not_not.mp hc, h⟩)

/-- The tick in closed form: three pin events, the two latches, the cursor; nothing else. -/
theorem tick_eq (s : State) :
    tick s = { s with
      digSel := onehot6 s.cursor
      segOut := segments (s.dbuf.get s.cursor)
      cursor := nextCursor s.cursor
      trace := s.trace ++ [.pins s.segOut 0, .pins (segments (s.dbuf.get s.cursor)) 0,
        .pins (segments (s.dbuf.get s.cursor)) (onehot6 s.cursor)] } := by
  simp [tick, tickAdvance, tickSelect, tickDrive, tickBlank, State.pins, State.record, State.setCursor, State.setDigSel,
    State.setSegOut]

/-- Using up a move changes only the model's own fields. -/
theorem afterMove_eq (s : State) :
    ∃ a n, s.afterMove = { s with agenda := a, freeMoves := n } := by
  unfold State.afterMove
  split
  · exact ⟨_, _, rfl⟩
  · exact ⟨_, _, rfl⟩

theorem nextMove_cons {s : State} {m : Move} {rest : List Move} (h : s.agenda = m :: rest) : s.nextMove = m := by
  simp [State.nextMove, h]

theorem afterMove_cons {s : State} {m : Move} {rest : List Move} (h : s.agenda = m :: rest) :
    s.afterMove = { s with agenda := rest } := by
  simp [State.afterMove, h, State.setMoves]

end Sys2Proof.Machine
end

