-- ==== Sys2Proof/Laws/PerInstr.lean ====
section
/-! SUPPORT. Statements made per instruction: the packet of every well-formed instruction is `LEN + 5` bytes long, 5 to 15
(spec 30_encoding.md R70). -/

namespace Sys2Proof.Laws.PacketLength

/-- R70: `LEN + 5` bytes, 5 at least and 15 at most. -/
def Statement (i : Instr) : Prop :=
  i.wellFormed = true → (encode i).length = i.data.length + 5 ∧ 5 ≤ (encode i).length ∧ (encode i).length ≤ 15

theorem of_bound {i : Instr} (h : i.data.length ≤ 10) :
    (encode i).length = i.data.length + 5 ∧ 5 ≤ (encode i).length ∧ (encode i).length ≤ 15 := by
  have : (encode i).length = i.data.length + 5 := by simp [encode, encodeWith]
  omega

theorem updateScore (data : List Byte) : Statement (.updateScore data) := fun h => of_bound (of_decide_eq_true h)

theorem updateTimer (data : List Byte) : Statement (.updateTimer data) := fun h => of_bound (of_decide_eq_true h)

theorem startMatch (data : List Byte) : Statement (.startMatch data) := fun h => of_bound (of_decide_eq_true h)

theorem stopMatch (data : List Byte) : Statement (.stopMatch data) := fun h => of_bound (of_decide_eq_true h)

theorem resetMatch (data : List Byte) : Statement (.resetMatch data) := fun h => of_bound (of_decide_eq_true h)

theorem ping (data : List Byte) : Statement (.ping data) := fun h => of_bound (of_decide_eq_true h)

theorem setLed (data : List Byte) : Statement (.setLed data) := fun h => of_bound (of_decide_eq_true h)

theorem unknown (code : Byte) (data : List Byte) : Statement (.unknown code data) := fun h =>
  of_bound (of_decide_eq_true (Bool.and_eq_true_iff.mp h).2)

end Sys2Proof.Laws.PacketLength
end

