-- ==== Sys2Proof/Laws/Schedule.lean ====
section
/-! SUPPORT. Where a move of the free order stands (spec 20_memory.md R67). -/

namespace Sys2Proof.Machine

@[simp] theorem closingMove_even (n : Nat) : closingMove (2 * n) = .tick := by simp [closingMove]

@[simp] theorem closingMove_odd (n : Nat) : closingMove (2 * n + 1) = .foreground := by simp [closingMove]

@[simp] theorem fairPrefix_zero (stretch : Nat → List Move) : fairPrefix stretch 0 = [] := rfl

theorem fairPrefix_succ (stretch : Nat → List Move) (n : Nat) :
    fairPrefix stretch (n + 1) = fairPrefix stretch n ++ (stretch n ++ [closingMove n]) := rfl

/-- Every stretch holds at least its closing move. -/
theorem le_length_fairPrefix (stretch : Nat → List Move) : ∀ n, n ≤ (fairPrefix stretch n).length
  | 0 => Nat.zero_le _
  | n + 1 => by
    have ih := le_length_fairPrefix stretch n
    simp only [fairPrefix_succ, List.length_append, List.length_singleton]
    omega

/-- More stretches only add moves behind. -/
theorem fairPrefix_prefix (stretch : Nat → List Move) {m n : Nat} (h : m ≤ n) :
    fairPrefix stretch m <+: fairPrefix stretch n := by
  induction h with
  | refl => exact List.prefix_rfl
  | step _ ih => exact ih.trans (List.prefix_append _ _)

/-- A move that stands at place `n` of the first `k` stretches is the `n`-th move of the order. -/
theorem fairMove_of_getElem? {stretch : Nat → List Move} {n k : Nat} {m : Move}
    (h : (fairPrefix stretch k)[n]? = some m) : fairMove stretch n = m := by
  have hn : n < (fairPrefix stretch k).length := (List.getElem?_eq_some_iff.mp h).1
  have hn' : n < (fairPrefix stretch (n + 1)).length := le_length_fairPrefix stretch (n + 1)
  have same : (fairPrefix stretch (n + 1))[n]? = (fairPrefix stretch k)[n]? := by
    rcases Nat.le_total (n + 1) k with hk | hk
    · obtain ⟨l, hl⟩ := fairPrefix_prefix stretch hk
      rw [← hl, List.getElem?_append_left hn']
    · obtain ⟨l, hl⟩ := fairPrefix_prefix stretch hk
      rw [← hl, List.getElem?_append_left hn]
  simp [fairMove, List.getD_eq_getElem?_getD, same, h]

/-- The closing move of stretch `k` stands right behind the stretch. -/
theorem fairMove_closing (stretch : Nat → List Move) (k : Nat) :
    fairMove stretch ((fairPrefix stretch k).length + (stretch k).length) = closingMove k := by
  refine fairMove_of_getElem? (k := k + 1) ?_
  rw [fairPrefix_succ, List.getElem?_append_right (by omega), List.getElem?_append_right (by omega)]
  simp

end Sys2Proof.Machine
end

