-- ==== Sys2Proof/Laws/Step.lean ====
section
/-! SUPPORT. One step by the move that comes next, and a run of several steps. -/

namespace Sys2Proof.Machine

theorem step_of_nextMove {s : State} {m : Move} (h : s.nextMove = m) : step s = runMove m s.afterMove := by
  simp only [step, h]

theorem step_of_agenda {s : State} {m : Move} {rest : List Move} (h : s.agenda = m :: rest) :
    step s = runMove m { s with agenda := rest } := by
  rw [step_of_nextMove (nextMove_cons h), afterMove_cons h]

/-- With an empty agenda the step takes the next move of the free order, and counts it. -/
theorem step_of_agenda_nil {s : State} (h : s.agenda = []) :
    step s = runMove (fairMove Config.stretch s.freeMoves) { s with freeMoves := s.freeMoves + 1 } := by
  simp only [step, State.nextMove, State.afterMove, h, State.setMoves]

theorem byteStep_keeps_moves {b : Byte} {s t : State} (h : byteStep b s = .next t) :
    t.agenda = s.agenda ∧ t.freeMoves = s.freeMoves := by
  unfold byteStep at h
  split at h
  · cases h; unfold waitStartStep; split <;> exact ⟨rfl, rfl⟩
  · cases h; exact ⟨rfl, rfl⟩
  · cases h; unfold readLenStep; split
    · exact ⟨rfl, rfl⟩
    · split <;> exact ⟨rfl, rfl⟩
  · obtain ⟨-, -, rfl⟩ := readDataStep_next h; exact ⟨rfl, rfl⟩
  · cases h; exact ⟨rfl, rfl⟩
  · obtain ⟨-, rfl⟩ | ⟨-, -, -, rfl⟩ | ⟨-, -, -, hx⟩ := readEndStep_next h
    · exact ⟨rfl, rfl⟩
    · exact ⟨rfl, rfl⟩
    · rw [exec_next_writes hx]; exact ⟨rfl, rfl⟩

/-- No agent writes the moves to come: only using a move up does (log 1). -/
theorem runMove_keeps_moves {m : Move} {s t : State} (h : runMove m s = .next t) :
    t.agenda = s.agenda ∧ t.freeMoves = s.freeMoves := by
  cases m with
  | foreground =>
    obtain ⟨-, -, e⟩ | ⟨-, ⟨-, e⟩ | ⟨rest, -, e⟩ | ⟨b, rest, -, e⟩⟩ := foreground_cases s <;> rw [runMove, e] at h
    · cases h; exact ⟨rfl, rfl⟩
    · cases h; exact ⟨rfl, rfl⟩
    · cases h; unfold timeoutStep; split <;> exact ⟨rfl, rfl⟩
    · obtain ⟨ha, hf⟩ := byteStep_keeps_moves h
      exact ⟨ha, hf⟩
  | tick => cases h; rw [tick_eq]; exact ⟨rfl, rfl⟩
  | rxByte b => cases h; exact ⟨rfl, rfl⟩
  | rxTimeout => cases h; unfold rxTimeoutEvent; split <;> exact ⟨rfl, rfl⟩
  | txDrain => cases h; unfold txDrainStep; split <;> exact ⟨rfl, rfl⟩
  | reset => cases h; exact ⟨rfl, rfl⟩

theorem run_zero (s : State) : Host.Core.run Sys2Proof.core 0 s = .next s := rfl

theorem run_succ_of_next {n : Nat} {s t : State} (h : step s = .next t) :
    Host.Core.run Sys2Proof.core (n + 1) s = Host.Core.run Sys2Proof.core n t := by
  have hs : Sys2Proof.core.step s = .next t := h
  simp only [Host.Core.run, hs]

theorem run_one (s : State) : Host.Core.run Sys2Proof.core 1 s = step s := by
  have hs : Sys2Proof.core.step s = step s := rfl
  simp only [Host.Core.run, hs]
  cases step s <;> rfl

/-- If a run of `n + 1` steps answers a next state, so does its first step, and the rest is a run from there. -/
theorem run_succ_next {n : Nat} {s u : State} (h : Host.Core.run Sys2Proof.core (n + 1) s = .next u) :
    ∃ t, step s = .next t ∧ Host.Core.run Sys2Proof.core n t = .next u := by
  have hs : Sys2Proof.core.step s = step s := rfl
  simp only [Host.Core.run, hs] at h
  cases hst : step s with
  | next t => exact ⟨t, rfl, by simpa only [hst] using h⟩
  | fault r => rw [hst] at h; cases h
  | refused r => rw [hst] at h; cases h

end Sys2Proof.Machine
end

