-- ==== Sys2Proof/Tests/Slice0.lean ====
section
/-! SUPPORT. Tests: expected values are the spec's (95_test_vectors.md, 30_encoding.md R83), and one witness for the premises of
each statement that has any. -/

open Sys2Proof Sys2Proof.Machine

namespace Sys2Proof.Tests

/-- One value of the next state, if there is one. -/
def seen {α : Type} (f : State → α) (o : Host.Outcome State Fault Refusal) : Option α :=
  match o with
  | .next t => some (f t)
  | .fault _ => none
  | .refused _ => none

/-- The reset state with events received and moves fixed. -/
def given (rx : List RxEvent) (moves : List Move) : State := { State.reset with rxq := rx, agenda := moves }

/-- A framer state with the next event waiting and F to move. -/
def framer (f : FState) (e : RxEvent) : State := { given [e] [.foreground] with fstate := f }

/-! ## WellFormed -/

theorem test_wellFormed_ten_bytes : Instr.wellFormed (.ping [1, 2, 3, 4, 5, 6, 7, 8, 9, 10]) = true := by decide

/-- R73: eleven data bytes are no packet. -/
theorem test_illFormed_eleven_bytes : Instr.wellFormed (.ping [1, 2, 3, 4, 5, 6, 7, 8, 9, 10, 11]) = false := by decide

/-- R76: 0x07 is SET_LED's code, not an unknown one. -/
theorem test_illFormed_known_code : Instr.wellFormed (.unknown 0x07 []) = false := by decide

theorem test_wellFormed_edge_codes :
    (Instr.wellFormed (.unknown 0x00 []) && Instr.wellFormed (.unknown 0x08 []) && Instr.wellFormed (.unknown 0xFF [])) = true := by
  decide

/-! ## Decoding: packets written out from R70, R76 and the vectors -/

/-- V-C1. -/
theorem test_decode_update_score :
    decode [0xAA, 0x01, 0x02, 0x32, 0x14, 0x25, 0x55] = .ok (.updateScore [0x32, 0x14], []) := by decide

/-- V-C8. -/
theorem test_decode_update_timer :
    decode [0xAA, 0x02, 0x02, 0x01, 0x2D, 0x2C, 0x55] = .ok (.updateTimer [1, 45], []) := by decide

/-- V-C19: START_MATCH with one data byte. -/
theorem test_decode_start_match : decode [0xAA, 0x03, 0x01, 0x00, 0x02, 0x55] = .ok (.startMatch [0], []) := by decide

theorem test_decode_stop_match : decode [0xAA, 0x04, 0x00, 0x04, 0x55] = .ok (.stopMatch [], []) := by decide

theorem test_decode_reset_match : decode [0xAA, 0x05, 0x00, 0x05, 0x55] = .ok (.resetMatch [], []) := by decide

/-- V-F17: the bytes after a packet are left alone. -/
theorem test_decode_ping_then_rest :
    decode [0xAA, 0x06, 0x00, 0x06, 0x55, 0xAA] = .ok (.ping [], [0xAA]) := by decide

theorem test_decode_set_led : decode [0xAA, 0x07, 0x02, 0x01, 0x01, 0x05, 0x55] = .ok (.setLed [1, 1], []) := by decide

/-- V-F14: marker values inside a packet are ordinary bytes. -/
theorem test_decode_unknown_with_markers : decode [0xAA, 0xAA, 0x00, 0xAA, 0x55] = .ok (.unknown 0xAA [], []) := by decide

/-- V-S1: the source's own example fails its checksum (C1). -/
theorem test_decode_source_example_rejected :
    decode [0xAA, 0x01, 0x02, 0x32, 0x14, 0x24, 0x55] = .error .checksum := by decide

/-- V-F9: with both wrong, the end marker is named. -/
theorem test_decode_end_before_checksum : decode [0xAA, 0x06, 0x00, 0x07, 0x56] = .error .endMarker := by decide

/-- V-E6, R80: the reply is no request. -/
theorem test_decode_reply_rejected : decode [0xAA, 0xCC, 0x55] = .error .length := by decide

theorem test_decode_other_rejections :
    decode [0x55, 0xAA] = .error .startMarker ∧ decode [0xAA, 0x06, 0x00] = .error .truncated := by decide

/-- The opcode table's rows, by their command byte alone. -/
theorem test_decodeTableWord_rows :
    (decodeTableWord 8 1 = some (.updateScore []) ∧ decodeTableWord 8 2 = some (.updateTimer []) ∧
      decodeTableWord 8 3 = some (.startMatch []) ∧ decodeTableWord 8 4 = some (.stopMatch [])) ∧
    (decodeTableWord 8 5 = some (.resetMatch []) ∧ decodeTableWord 8 6 = some (.ping []) ∧
      decodeTableWord 8 7 = some (.setLed []) ∧ decodeTableWord 8 8 = some (.unknown 8 [])) := by decide

/-- A longer word: `CMD`, `LEN`, `DATA[0]`, `DATA[1]` from the least significant byte up. -/
theorem test_decodeTableWord_with_data : decodeTableWord 32 0x14320201 = some (.updateScore [0x32, 0x14]) := by decide

/-! ## The commands, one step each -/

/-- V-C2: 99 is accepted. -/
theorem test_update_score_applies :
    seen (fun t => (t.redScore, t.blueScore, t.dbuf.toList)) (exec (.updateScore [99, 99]) State.reset) =
      some (99, 99, [0x3F, 0x5B, 0x4F, 0x3F, 0x6F, 0x6F]) := by decide

/-- V-C4: red is in range, blue is not, and neither is written. -/
theorem test_update_score_rejects_whole :
    seen (fun t => (t.redScore, t.trace)) (exec (.updateScore [7, 100]) State.reset) =
      some (0, [.label (.commit 0x01 .noopRange)]) := by decide

/-- V-C9. -/
theorem test_update_timer_applies :
    seen (fun t => (t.minutes, t.seconds, t.dbuf.toList)) (exec (.updateTimer [99, 59]) State.reset) =
      some (99, 59, [0x6F, 0x6F, 0x6D, 0x6F, 0x3F, 0x3F]) := by decide

/-- V-C10: 60 seconds are rejected. -/
theorem test_update_timer_rejects :
    seen (fun t => (t.minutes, t.trace)) (exec (.updateTimer [0, 60]) State.reset) =
      some (2, [.label (.commit 0x02 .noopRange)]) := by decide

/-- V-C13. -/
theorem test_start_match :
    seen (fun t => (t.phase, t.redFlag, t.blueFlag)) (exec (.startMatch []) State.reset) = some (.active, true, true) := by decide

/-- V-C16: STOP in `Idle` enters `Paused`. -/
theorem test_stop_match :
    seen (fun t => (t.phase, t.redFlag, t.blueFlag)) (exec (.stopMatch []) { State.reset with redFlag := true }) =
      some (.paused, false, false) := by decide

/-- V-C17, V-R3: defaults back, driver and queue untouched. -/
theorem test_reset_match :
    seen (fun t => (t.minutes, t.phase, t.cursor, t.txq))
        (exec (.resetMatch []) { State.reset with minutes := 1, phase := .paused, cursor := 3, txq := [0xAA] }) =
      some (2, .idle, 3, [0xAA]) := by decide

/-- V-C18, V-F17: data is ignored, the reply is appended. -/
theorem test_ping :
    seen (fun t => t.txq) (exec (.ping [0x77]) { State.reset with txq := [0xAA, 0xCC, 0x55] }) =
      some [0xAA, 0xCC, 0x55, 0xAA, 0xCC, 0x55] := by decide

/-- V-C21: alliance 2 writes the blue flag only. -/
theorem test_set_led_blue :
    seen (fun t => (t.redFlag, t.blueFlag)) (exec (.setLed [2, 0]) { State.reset with redFlag := true, blueFlag := true }) =
      some (true, false) := by decide

/-- V-C22: alliance 3. -/
theorem test_set_led_bad_alliance :
    seen (fun t => (t.redFlag, t.blueFlag, t.trace)) (exec (.setLed [3, 1]) State.reset) =
      some (false, false, [.label (.commit 0x07 .noopAlliance)]) := by decide

/-- V-C26. -/
theorem test_unknown : exec (.unknown 8 []) State.reset =
    .next { State.reset with trace := [.label (.commit 0x08 .noopUnknown)] } := rfl

/-! ## Builder, tick, indicators, framer, fetch -/

/-- V-B6, V-B7, V-B9. -/
theorem test_build :
    build 12 34 56 = some #v[0x06, 0x5B, 0x4F, 0x66, 0x6D, 0x7D] ∧ build 78 9 0 = some #v[0x07, 0x7F, 0x3F, 0x6F, 0x3F, 0x3F] ∧
      build 100 0 0 = none := by decide

/-- V-T1, tick 1. -/
theorem test_first_tick :
    seen (fun t => (t.trace, t.cursor)) (step (given [] [.tick])) =
      some ([.pins 0x00 0, .pins 0x3F 0, .pins 0x3F 0b000001], 1) := by decide

/-- V-T1, tick 6: the cursor wraps. -/
theorem test_sixth_tick :
    seen (fun t => (t.digSel, t.cursor)) (step { given [] [.tick] with cursor := 5 }) = some (0b100000, 0) := by decide

/-- V-I2, V-I6. -/
theorem test_indicator_update :
    seen (fun t => (t.indRedOut, t.indBlueOut, t.indDue))
        (step { given [] [.foreground] with indDue := true, phase := .active, redFlag := true }) = some (true, false, false) ∧
    seen (fun t => (t.indRedOut, t.indBlueOut))
        (step { given [] [.foreground] with indDue := true, phase := .paused, redFlag := true }) = some (false, false) := by decide

/-- R103: 10 is legal, 11 is not. -/
theorem test_length_bound :
    seen (fun t => t.fstate) (step (framer .readLen (.byte 10))) = some .readData ∧
    seen (fun t => (t.fstate, t.trace)) (step (framer .readLen (.byte 11))) = some (.waitStart, [.label .dropLength]) := by decide

/-- V-F10: a timeout in `ReadChk`; V-F12: in `WaitStart` it does nothing. -/
theorem test_timeout :
    seen (fun t => (t.fstate, t.indDue)) (step (framer .readChk .timeout)) = some (.waitStart, true) ∧
    seen (fun t => (t.indDue, t.trace)) (step (framer .waitStart .timeout)) = some (false, []) := by decide

/-- V-R2: reset in the middle of a packet. -/
theorem test_reset_event :
    seen (fun t => (t.fstate, t.rxq)) (step { given [.byte 0x00] [.reset] with fstate := .readLen, cmd := 6 }) =
      some (.waitStart, []) := by decide

/-- The next step runs the placed instruction, as the first after reset. -/
theorem test_withFetchWord :
    seen (fun t => t.phase) (step (State.reset.withFetchWord 8 3)) = some .active ∧
    seen (fun t => t.redScore) (step (State.reset.withFetchWord 32 0x14320201)) = some 0x32 ∧
    seen (fun t => t.trace) (step (State.reset.withFetchWord 16 0x0B01)) = some [.label .dropLength] := by decide

/-! ## Witnesses: the premises of each statement can be met -/

theorem witness_UpdateScoreEffect :
    State.reset.minutes.toNat ≤ 99 ∧ State.reset.seconds.toNat ≤ 99 ∧ ([7] : List Byte).length < 2 ∧
      99 < (100 : Byte).toNat ∧ (99 : Byte).toNat ≤ 99 := by decide

theorem witness_UpdateTimerEffect :
    State.reset.redScore.toNat ≤ 99 ∧ ([] : List Byte).length < 2 ∧ 99 < (100 : Byte).toNat ∧ 59 < (60 : Byte).toNat ∧
      (99 : Byte).toNat ≤ 99 ∧ (59 : Byte).toNat ≤ 59 := by decide

/-- Each clause of SET_LED but the open one; whether a state byte 2..255 has no effect is the parameter's. -/
theorem witness_SetLedEffect :
    ([1] : List Byte).length < 2 ∧ (3 : Byte) ≠ 1 ∧ (3 : Byte) ≠ 2 ∧ setLedState 1 = some true ∧ setLedState 0 = some false := by
  decide

theorem witness_UnknownCode : ((0 : Byte) = 0 ∨ 8 ≤ (0 : Byte).toNat) ∧ 8 ≤ (8 : Byte).toNat := by decide

/-- One commit for each label that a known parameter fixes, at the edges of its range. -/
theorem witness_CommitLabel :
    (∃ t, exec (.setLed [1]) State.reset = .next t) ∧ (∃ t, exec (.unknown 8 []) State.reset = .next t) ∧
      (∃ t, exec (.updateScore [99, 100]) State.reset = .next t) ∧ (∃ t, exec (.updateScore [99, 99]) State.reset = .next t) ∧
      (∃ t, exec (.updateTimer [99, 60]) State.reset = .next t) ∧ (∃ t, exec (.updateTimer [99, 59]) State.reset = .next t) ∧
      (∃ t, exec (.setLed [3, 1]) State.reset = .next t) ∧ setLedState 1 ≠ none ∧
      ∃ t, exec (.setLed [2, 0]) State.reset = .next t :=
  ⟨⟨_, rfl⟩, ⟨_, rfl⟩, ⟨_, rfl⟩, ⟨_, rfl⟩, ⟨_, rfl⟩, ⟨_, rfl⟩, ⟨_, rfl⟩, by decide, _, rfl⟩

theorem witness_PhaseFollowsTheTable : ∃ t, exec (.stopMatch []) State.reset = .next t := ⟨_, rfl⟩

theorem witness_EffectIndependentOfPhase :
    (∀ d, Instr.ping [] ≠ .startMatch d) ∧ (∀ d, Instr.ping [] ≠ .stopMatch d) ∧ (∀ d, Instr.ping [] ≠ .resetMatch d) ∧
      ∃ t, exec (.ping []) State.reset = .next t := ⟨nofun, nofun, nofun, _, rfl⟩

theorem witness_RepeatedCommand : (∀ d, Instr.startMatch [] ≠ .ping d) ∧ ∃ t, exec (.startMatch []) State.reset = .next t :=
  ⟨nofun, _, rfl⟩

/-- Below, at and above 99. -/
theorem witness_BuildOrFault :
    (99 : Byte).toNat ≤ 99 ∧ 99 < (100 : Byte).toNat ∧ 99 < ({ State.reset with minutes := 100 } : State).minutes.toNat ∧
      99 < ({ State.reset with redScore := 100 } : State).redScore.toNat := by decide

theorem witness_BuiltBufferDecodes : segRom.toList.Nodup ∧ ∃ d, buildWith segRom 99 59 0 = some d := ⟨by decide, _, rfl⟩

/-- A sound state in which T moves next. -/
theorem witness_Inv_tick : (given [] [.tick]).Inv ∧ (given [] [.tick]).nextMove = .tick := by
  refine ⟨?_, rfl⟩
  constructor <;> decide

/-- A sound state in the middle of a packet, F to move. -/
theorem witness_Inv_foreground :
    ({ framer .readData (.byte 9) with len := 2, idx := 1 } : State).Inv ∧
      ∃ t, step { framer .readData (.byte 9) with len := 2, idx := 1 } = .next t := by
  refine ⟨?_, _, rfl⟩
  constructor <;> decide

theorem witness_DecodeOfEncode : Instr.wellFormed (.updateScore [99, 100]) = true := by decide

theorem witness_AcceptedBytes : decode [0xAA, 0x06, 0x00, 0x06, 0x55] = .ok (.ping [], []) := by decide

theorem witness_WrongChecksum : Instr.wellFormed (.ping []) = true ∧ (0x07 : Byte) ≠ Instr.checksum (.ping []) := by decide

theorem witness_SingleByteError :
    Instr.wellFormed (.updateScore [50, 20]) = true ∧ (2 : Byte) ≠ Instr.code (.updateScore [50, 20]) ∧
      1 < (Instr.data (.updateScore [50, 20])).length ∧ (21 : Byte) ≠ (Instr.data (.updateScore [50, 20]))[1]! := by decide

theorem witness_ChecksumOrder : ([50, 20] : List Byte).Perm [20, 50] := by decide

theorem witness_LengthViolation : 10 < (11 : Byte).toNat := by decide

/-- The premises of the byte-step statements: F moves, in each framer state, with a byte waiting. -/
theorem witness_byte_steps (f : FState) :
    (framer f (.byte 0x55)).nextMove = .foreground ∧ (framer f (.byte 0x55)).fstate = f ∧
      (framer f (.byte 0x55)).indDue = false ∧ (framer f (.byte 0x55)).rxq = [.byte 0x55] ∧
      (framer f (.byte 0x55)).idx.val < 10 ∧ (framer f (.byte 0x55)).len.toNat ≤ 10 := by
  cases f <;> decide

/-- The clauses of `ReadLen` at their edges. -/
theorem witness_ReadLen : 10 < (11 : Byte).toNat ∧ (10 : Byte) ≠ 0 ∧ (10 : Byte).toNat ≤ 10 ∧ (1 : Byte) ≠ 0 := by decide

/-- The clauses of `ReadEnd`: a right and a wrong checksum. -/
theorem witness_ReadEnd :
    ({ framer .readEnd (.byte 0x55) with cmd := 6, chk := 6 } : State).chk = xorFold 6 0 [] ∧
      ({ framer .readEnd (.byte 0x55) with cmd := 6, chk := 7 } : State).chk ≠ xorFold 6 0 [] ∧ (0xAA : Byte) ≠ 0x55 := by decide

theorem witness_IndexOutsideData :
    ({ framer .readData (.byte 1) with idx := 10 } : State).idx.val = 10 ∧
      10 < ({ framer .readEnd (.byte 0x55) with len := 11 } : State).len.toNat := by decide

theorem witness_Timeout :
    (framer .readChk .timeout).nextMove = .foreground ∧ (framer .readChk .timeout).rxq = [.timeout] ∧
      (framer .readChk .timeout).fstate ≠ .waitStart ∧ (framer .waitStart .timeout).indDue = false := by decide

/-- One step for each label, and a `Timeout` in `WaitStart`. -/
theorem witness_DropLabel :
    (∃ t, step (framer .waitStart (.byte 0xAB)) = .next t) ∧ (∃ t, step (framer .readLen (.byte 11)) = .next t) ∧
      (∃ t, step (framer .readEnd (.byte 0x54)) = .next t) ∧
      (∃ t, step { framer .readEnd (.byte 0x55) with chk := 1 } = .next t) ∧
      (∃ t, step (framer .readCmd .timeout) = .next t) ∧ (∃ t, step (framer .waitStart .timeout) = .next t) ∧
      ¬((framer .waitStart .timeout).fstate = .waitStart ∧ (framer .waitStart .timeout).indDue = true) :=
  ⟨⟨_, rfl⟩, ⟨_, rfl⟩, ⟨_, rfl⟩, ⟨_, rfl⟩, ⟨_, rfl⟩, ⟨_, rfl⟩, by decide⟩

/-- V-F10: a `Timeout` in `ReadChk` is a drop, with its label. -/
theorem test_timeout_label :
    seen (fun t => (t.fstate, t.trace)) (step (framer .readChk .timeout)) = some (.waitStart, [.label .dropTimeout]) := by decide

theorem witness_ForegroundWaits :
    (given [] [.foreground]).nextMove = .foreground ∧ (given [] [.foreground]).rxq = [] ∧
      ¬((given [] [.foreground]).fstate = .waitStart ∧ (given [] [.foreground]).indDue = true) := by decide

theorem witness_StepRunsTheDecodedInstr :
    decode (0xAA :: (6 : Byte) :: (0 : Byte) ::
      (({ framer .readEnd (.byte 0x55) with cmd := 6, chk := 6 } : State).data.toList.take 0 ++ [6, 0x55])) =
      .ok (.ping [], []) := by decide

theorem witness_PacketAtQueueHead :
    Instr.wellFormed (.setLed [1, 1]) = true ∧
      (given ((encode (.setLed [1, 1])).map .byte ++ []) (List.replicate 7 .foreground ++ [])).fstate = .waitStart ∧
      (given ((encode (.setLed [1, 1])).map .byte ++ []) (List.replicate 7 .foreground ++ [])).indDue = false := by decide

theorem witness_ForegroundTakesTheHead :
    (framer .readCmd (.byte 6)).nextMove = .foreground ∧ ∃ t, step (framer .readCmd (.byte 6)) = .next t := ⟨rfl, _, rfl⟩

/-- Two states that differ in `CMD` and `CHK` before a packet begins. -/
theorem witness_StaleScratch :
    SameButScratch (framer .waitStart (.byte 0xAA)) { framer .waitStart (.byte 0xAA) with cmd := 1, chk := 9 } ∧
      ∃ t, step (framer .waitStart (.byte 0xAA)) = .next t := by
  refine ⟨?_, _, rfl⟩
  constructor <;> decide

theorem witness_SixTicks :
    [Move.tick, .tick, .rxByte 1, .tick, .tick, .foreground, .tick, .tick].count .tick = 6 ∧
      Move.reset ∉ [Move.tick, .tick, .rxByte 1, .tick, .tick, .foreground, .tick, .tick] ∧
      ∃ t, Host.Core.run Sys2Proof.core 8 (given [] [.tick, .tick, .rxByte 1, .tick, .tick, .foreground, .tick, .tick]) = .next t :=
  ⟨by decide, by decide, _, rfl⟩

theorem witness_FullCycle : (given [] (List.replicate 6 .tick ++ [])).agenda = List.replicate 6 .tick ++ [] := rfl

theorem witness_IndicatorUpdate :
    ({ given [] [.foreground] with indDue := true, phase := .active } : State).nextMove = .foreground ∧
      ({ given [] [.foreground] with indDue := true } : State).phase ≠ .active := by decide

theorem witness_TicksDoNotDisturb :
    ∃ t, Host.Core.run Sys2Proof.core 3 (given [] [.rxByte 0xAA, .tick, .foreground]) = .next t := ⟨_, rfl⟩

theorem witness_environment_and_reset :
    (given [] [.rxByte 7]).nextMove = .rxByte 7 ∧ (given [] [.rxTimeout]).nextMove = .rxTimeout ∧
      (given [] [.txDrain]).nextMove = .txDrain ∧ (given [] [.txDrain]).txq = [] ∧
      ({ given [] [.txDrain] with txq := [0xAA] } : State).txq = [0xAA] ∧ (given [] [.reset]).nextMove = .reset := by decide

/-- A step that commits UPDATE_SCORE and changes the scores and `DBUF`. -/
theorem witness_writers :
    (State.reset.withFetchWord 32 0x14320201).committing = some (.updateScore [0x32, 0x14]) ∧
      ∃ t, step (State.reset.withFetchWord 32 0x14320201) = .next t := ⟨by decide, _, rfl⟩

/-- A step that commits PING, and one that drains. -/
theorem witness_OnlyPing :
    seen (fun t => t.txq) (step (State.reset.withFetchWord 8 6)) = some [0xAA, 0xCC, 0x55] ∧
      seen (fun t => t.txq) (step { given [] [.txDrain] with txq := [0xAA, 0xCC] }) = some [0xCC] := by decide

/-- R67: empty stretches give T and F in turn; a stretch goes before its closing move. -/
theorem test_fairMove :
    ((List.range 4).map (fairMove fun _ => []) = [.tick, .foreground, .tick, .foreground]) ∧
      (List.range 4).map (fairMove fun _ => [.rxByte 1]) = [.rxByte 1, .tick, .rxByte 1, .foreground] := by decide

/-- A sound state whose next move is the agenda's. -/
theorem witness_fairness : State.reset.Inv ∧ (given [] [.foreground]).Inv := by
  refine ⟨?_, ?_⟩ <;> constructor <;> decide

/-- An order that is fair: T and F in turn. -/
theorem witness_FairOrders : ∀ n, fairMove (fun _ => []) n = fairMove (fun _ => []) n := fun _ => rfl

end Sys2Proof.Tests
end

section
/-! PROOF. What F's step does with the event it takes: the step reduced to `byteStep` or `timeoutStep`, and one closed form for
each branch of the byte steps (spec 40_framer.md R100 to R109). -/

namespace Sys2Proof.Machine

/-! ## Using up a move leaves every register in place (log 1) -/

@[simp] theorem State.afterMove_fstate (s : State) : s.afterMove.fstate = s.fstate := by
  obtain ⟨a, n, h⟩ := afterMove_eq s; rw [h]

@[simp] theorem State.afterMove_cmd (s : State) : s.afterMove.cmd = s.cmd := by
  obtain ⟨a, n, h⟩ := afterMove_eq s; rw [h]

@[simp] theorem State.afterMove_len (s : State) : s.afterMove.len = s.len := by
  obtain ⟨a, n, h⟩ := afterMove_eq s; rw [h]

@[simp] theorem State.afterMove_data (s : State) : s.afterMove.data = s.data := by
  obtain ⟨a, n, h⟩ := afterMove_eq s; rw [h]

@[simp] theorem State.afterMove_idx (s : State) : s.afterMove.idx = s.idx := by
  obtain ⟨a, n, h⟩ := afterMove_eq s; rw [h]

@[simp] theorem State.afterMove_chk (s : State) : s.afterMove.chk = s.chk := by
  obtain ⟨a, n, h⟩ := afterMove_eq s; rw [h]

@[simp] theorem State.afterMove_indDue (s : State) : s.afterMove.indDue = s.indDue := by
  obtain ⟨a, n, h⟩ := afterMove_eq s; rw [h]

@[simp] theorem State.afterMove_rxq (s : State) : s.afterMove.rxq = s.rxq := by
  obtain ⟨a, n, h⟩ := afterMove_eq s; rw [h]

@[simp] theorem State.afterMove_trace (s : State) : s.afterMove.trace = s.trace := by
  obtain ⟨a, n, h⟩ := afterMove_eq s; rw [h]

/-! ## F's step takes the head of `RXQ` (R100) -/

theorem foreground_of_byte {s : State} {b : Byte} {rest : List RxEvent}
    (hdue : ¬(s.fstate = .waitStart ∧ s.indDue = true)) (hq : s.rxq = .byte b :: rest) :
    foreground s = byteStep b (s.setRxq rest) := by
  simp only [foreground, if_neg hdue, hq]

theorem foreground_of_timeout {s : State} {rest : List RxEvent}
    (hdue : ¬(s.fstate = .waitStart ∧ s.indDue = true)) (hq : s.rxq = .timeout :: rest) :
    foreground s = .next (timeoutStep (s.setRxq rest)) := by
  simp only [foreground, if_neg hdue, hq]

theorem step_of_byte {s : State} {b : Byte} {rest : List RxEvent} (hmove : s.nextMove = .foreground)
    (hdue : ¬(s.fstate = .waitStart ∧ s.indDue = true)) (hq : s.rxq = .byte b :: rest) :
    step s = byteStep b (s.afterMove.setRxq rest) := by
  rw [step_of_nextMove hmove, runMove, foreground_of_byte (by simpa using hdue) (by simpa using hq)]

theorem step_of_timeout {s : State} {rest : List RxEvent} (hmove : s.nextMove = .foreground)
    (hdue : ¬(s.fstate = .waitStart ∧ s.indDue = true)) (hq : s.rxq = .timeout :: rest) :
    step s = .next (timeoutStep (s.afterMove.setRxq rest)) := by
  rw [step_of_nextMove hmove, runMove, foreground_of_timeout (by simpa using hdue) (by simpa using hq)]

/-- Inside a packet no indicator update goes first (R100), so `FSTATE` alone selects the byte step. -/
theorem not_update_due {s : State} {f : FState} (hf : s.fstate = f) (hne : f ≠ .waitStart := by decide) :
    ¬(s.fstate = .waitStart ∧ s.indDue = true) := fun h => hne (hf.symm.trans h.1)

/-! ## `FSTATE` selects the byte step (R100) -/

theorem byteStep_waitStart {s : State} (hf : s.fstate = .waitStart) (b : Byte) : byteStep b s = .next (waitStartStep b s) := by
  simp only [byteStep, hf]

theorem byteStep_readCmd {s : State} (hf : s.fstate = .readCmd) (b : Byte) : byteStep b s = .next (readCmdStep b s) := by
  simp only [byteStep, hf]

theorem byteStep_readLen {s : State} (hf : s.fstate = .readLen) (b : Byte) : byteStep b s = .next (readLenStep b s) := by
  simp only [byteStep, hf]

theorem byteStep_readData {s : State} (hf : s.fstate = .readData) (b : Byte) : byteStep b s = readDataStep b s := by
  simp only [byteStep, hf]

theorem byteStep_readChk {s : State} (hf : s.fstate = .readChk) (b : Byte) : byteStep b s = .next (readChkStep b s) := by
  simp only [byteStep, hf]

theorem byteStep_readEnd {s : State} (hf : s.fstate = .readEnd) (b : Byte) : byteStep b s = readEndStep b s := by
  simp only [byteStep, hf]

/-! ## Facts about the drop, the length bound and the data write -/

/-- From `WaitStart` the end of an invocation does not move the framer. -/
theorem dropPacket_of_waitStart {s : State} (hf : s.fstate = .waitStart) (l : Label) :
    s.dropPacket l = { s with indDue := true, trace := s.trace ++ [.label l] } := by
  rw [dropPacket_eq, ← hf]

theorem not_maxLen_lt {n : Nat} (h : n ≤ 10) : ¬Config.maxLen < n := Nat.not_lt.mpr h

/-- The model's bounded write is the plain one at an index in bounds. -/
theorem setIfInBounds_of_lt (v : Vector Byte 10) {k : Nat} (hk : k < 10) (b : Byte) :
    v.setIfInBounds k b = v.set k b := by
  ext j hj
  simp only [Vector.getElem_setIfInBounds, Vector.getElem_set]

/-! ## The branches of the byte steps (R101 to R106) and of the timeout step (R109) -/

theorem waitStartStep_start (s : State) : waitStartStep 0xAA s = { s with fstate := .readCmd } := rfl

theorem waitStartStep_of_ne {b : Byte} (hb : b ≠ 0xAA) (s : State) :
    waitStartStep b s = s.dropPacket .discardNonstart := if_neg hb

theorem readLenStep_of_gt {b : Byte} (hb : 10 < b.toNat) (s : State) :
    readLenStep b s = (s.setLen b).dropPacket .dropLength := if_pos hb

theorem readLenStep_zero (s : State) :
    readLenStep 0 s = { s with len := 0, idx := 0, fstate := .readChk } := rfl

theorem readLenStep_of_le {b : Byte} (h0 : b ≠ 0) (hb : b.toNat ≤ 10) (s : State) :
    readLenStep b s = { s with len := b, idx := 0, fstate := .readData } := by
  rw [readLenStep, if_neg (not_maxLen_lt hb), if_neg h0]; rfl

/-- `readDataStep_next` with its premise discharged: below ten bytes the step always answers. -/
theorem readDataStep_of_lt {s : State} (hi : s.idx.val < 10) (b : Byte) :
    readDataStep b s = .next { s with
      data := s.data.set s.idx.val b
      idx := ⟨s.idx.val + 1, by omega⟩
      fstate := if s.idx.val + 1 = s.len.toNat then .readChk else s.fstate } := by
  obtain ⟨t, ht⟩ : ∃ t, readDataStep b s = .next t := ⟨_, if_pos hi⟩
  obtain ⟨-, hidx, rfl⟩ := readDataStep_next ht
  have hfin : s.idx + 1 = ⟨s.idx.val + 1, by omega⟩ := Fin.ext hidx
  rw [ht, hfin, setIfInBounds_of_lt _ hi]

theorem readEndStep_of_ne {b : Byte} (hb : b ≠ 0x55) (s : State) :
    readEndStep b s = .next (s.dropPacket .dropEnd) := if_pos hb

theorem readEndStep_of_chk_ne {s : State} (hlen : s.len.toNat ≤ 10) (hchk : s.chk ≠ xorFold s.cmd s.len s.payload) :
    readEndStep 0x55 s = .next (s.dropPacket .dropChecksum) := by
  rw [readEndStep, if_neg (by decide), if_neg (not_maxLen_lt hlen), if_pos hchk]

theorem readEndStep_of_chk_eq {s : State} (hlen : s.len.toNat ≤ 10) (hchk : s.chk = xorFold s.cmd s.len s.payload) :
    readEndStep 0x55 s = exec (decodeCommand s.cmd s.payload) s.endInvocation := by
  rw [readEndStep, if_neg (by decide), if_neg (not_maxLen_lt hlen), if_neg (not_not.mpr hchk)]

theorem timeoutStep_waitStart {s : State} (hf : s.fstate = .waitStart) : timeoutStep s = s := if_pos hf

theorem timeoutStep_of_ne {s : State} (hf : s.fstate ≠ .waitStart) : timeoutStep s = s.dropPacket .dropTimeout := if_neg hf

/-- What the checksum check and the dispatcher read is what the framer held before the move. -/
theorem payload_afterMove_setRxq (s : State) (rest : List RxEvent) :
    (s.afterMove.setRxq rest).payload = s.data.toList.take s.len.toNat := by
  simp only [State.payload, State.setRxq_data, State.setRxq_len, State.afterMove_data, State.afterMove_len]

end Sys2Proof.Machine
end

section
/-! PROOF. The framer's byte steps and its timeout step (spec 40_framer.md R101 to R106 and R109). -/

namespace Sys2Proof.Machine

/-- Settles O23 (R101): the start marker or a discard. -/
theorem waitStartByteStep : Obligations.WaitStartByteStep := by
  intro s b rest hmove hf hdue hq
  rw [step_of_byte hmove (by simp [hdue]) hq, byteStep_waitStart (by simpa using hf)]
  refine ⟨?start, ?discard⟩
  case start => rintro rfl; rw [waitStartStep_start]; rfl
  case discard => intro hb; exact ⟨_, by rw [waitStartStep_of_ne hb, dropPacket_of_waitStart (by simpa using hf)]; rfl⟩

/-- Settles O24 (R102). -/
theorem readCmdByteStep : Obligations.ReadCmdByteStep := by
  intro s b rest hmove hf hq
  rw [step_of_byte hmove (not_update_due hf) hq, byteStep_readCmd (by simpa using hf)]
  rfl

/-- Settles O25 (R103): the length bound, then the split on `LEN = 0`. -/
theorem readLenByteStep : Obligations.ReadLenByteStep := by
  intro s b rest hmove hf hq
  rw [step_of_byte hmove (not_update_due hf) hq, byteStep_readLen (by simpa using hf)]
  refine ⟨?tooLong, ?zero, ?legal⟩
  case tooLong => intro hb; exact ⟨_, by rw [readLenStep_of_gt hb, dropPacket_eq]; rfl⟩
  case zero => rintro rfl; rw [readLenStep_zero]; rfl
  case legal => intro h0 hb; rw [readLenStep_of_le h0 hb]; rfl

/-- Settles O26 (R104). -/
theorem readDataByteStep : Obligations.ReadDataByteStep := by
  intro s b rest hmove hf hq hi
  rw [step_of_byte hmove (not_update_due hf) hq, byteStep_readData (by simpa using hf),
    readDataStep_of_lt (by simpa using hi)]
  simp only [State.setRxq_data, State.setRxq_idx, State.setRxq_len, State.setRxq_fstate, State.afterMove_data,
    State.afterMove_idx, State.afterMove_len, State.afterMove_fstate, hf]
  rfl

/-- Settles O27 (R105). -/
theorem readChkByteStep : Obligations.ReadChkByteStep := by
  intro s b rest hmove hf hq
  rw [step_of_byte hmove (not_update_due hf) hq, byteStep_readChk (by simpa using hf)]
  rfl

/-- Settles O28 (R106): the end marker, then the checksum, then the commit. -/
theorem readEndByteStep : Obligations.ReadEndByteStep := by
  intro s b rest hmove hf hq hlen
  rw [step_of_byte hmove (not_update_due hf) hq, byteStep_readEnd (by simpa using hf)]
  have hlen' : (s.afterMove.setRxq rest).len.toNat ≤ 10 := by simpa using hlen
  refine ⟨?badEnd, ?badChecksum, ?accepted⟩
  case badEnd => intro hb; exact ⟨_, by rw [readEndStep_of_ne hb, dropPacket_eq]; rfl⟩
  case badChecksum =>
    rintro rfl hchk
    exact ⟨_, by rw [readEndStep_of_chk_ne hlen' (by simpa [payload_afterMove_setRxq] using hchk), dropPacket_eq]; rfl⟩
  case accepted =>
    rintro rfl hchk
    rw [readEndStep_of_chk_eq hlen' (by simpa [payload_afterMove_setRxq] using hchk), payload_afterMove_setRxq,
      State.setRxq_cmd, State.afterMove_cmd]
    rfl

/-- Settles O30 (R109): a drop from inside a packet, nothing in `WaitStart`. -/
theorem timeoutStepAbandons : Obligations.TimeoutStepAbandons := by
  intro s rest hmove hq
  refine ⟨?insidePacket, ?waiting⟩
  case insidePacket =>
    intro hf
    rw [step_of_timeout hmove (fun h => hf h.1) hq, timeoutStep_of_ne (by simpa using hf), dropPacket_eq,
      State.setRxq_trace, State.afterMove_trace]
    rfl
  case waiting =>
    intro hf hdue
    rw [step_of_timeout hmove (by simp [hdue]) hq, timeoutStep_waitStart (by simpa using hf)]
    rfl

end Sys2Proof.Machine
end

section
/-! PROOF. What each command answers, branch by branch: the operand reads and the range checks as arithmetic, then one
equation per branch of `exec` (spec 41_commands.md R121 to R127). -/

namespace Sys2Proof.Machine

/-! ## The operand checks -/

theorem scoresInRange_iff {red blue : Byte} : scoresInRange red blue = true ↔ red.toNat ≤ 99 ∧ blue.toNat ≤ 99 := by
  simp [scoresInRange]

theorem timerInRange_iff {m sec : Byte} : timerInRange m sec = true ↔ m.toNat ≤ 99 ∧ sec.toNat ≤ 59 := by
  simp [timerInRange]

theorem allianceOf_one : allianceOf 1 = some .red := rfl

theorem allianceOf_two : allianceOf 2 = some .blue := rfl

theorem allianceOf_of_ne {b : Byte} (h1 : b ≠ 1) (h2 : b ≠ 2) : allianceOf b = none := by
  rw [allianceOf, if_neg h1, if_neg h2]

theorem setLedState_zero : setLedState 0 = some false := rfl

theorem setLedState_one : setLedState 1 = some true := rfl

/-- Inside R44's ranges the rebuild of a commit has a buffer to write (R142). -/
theorem build_isSome {m sec red : Byte} (hm : m.toNat ≤ 99) (hsec : sec.toNat ≤ 99) (hred : red.toNat ≤ 99) :
    ∃ d, build m sec red = some d := buildWith_isSome segRom hm hsec hred

/-! ## UPDATE_SCORE (R121) -/

theorem exec_updateScore_of_short {data : List Byte} (h : data.length < 2) (s : State) :
    exec (.updateScore data) s = .next (s.commitLabel 0x01 .noopShort) := by
  simp only [exec, execUpdateScore, twoOperands_eq_none.mpr h]

theorem exec_updateScore_of_gt {red blue : Byte} (h : 99 < red.toNat ∨ 99 < blue.toNat) (rest : List Byte) (s : State) :
    exec (.updateScore (red :: blue :: rest)) s = .next (s.commitLabel 0x01 .noopRange) :=
  if_neg fun hin => by rw [scoresInRange_iff] at hin; omega

theorem exec_updateScore_of_le {red blue : Byte} (hred : red.toNat ≤ 99) (hblue : blue.toNat ≤ 99) (rest : List Byte)
    {s : State} {d : Vector Byte 6} (hd : build s.minutes s.seconds red = some d) :
    exec (.updateScore (red :: blue :: rest)) s = .next { s with
      redScore := red, blueScore := blue, dbuf := d, trace := s.trace ++ [.label (.commit 0x01 .applied)] } :=
  (if_pos (scoresInRange_iff.mpr ⟨hred, hblue⟩)).trans (rebuildDisplay_of_build hd)

/-! ## UPDATE_TIMER (R122) -/

theorem exec_updateTimer_of_short {data : List Byte} (h : data.length < 2) (s : State) :
    exec (.updateTimer data) s = .next (s.commitLabel 0x02 .noopShort) := by
  simp only [exec, execUpdateTimer, twoOperands_eq_none.mpr h]

theorem exec_updateTimer_of_gt {m sec : Byte} (h : 99 < m.toNat ∨ 59 < sec.toNat) (rest : List Byte) (s : State) :
    exec (.updateTimer (m :: sec :: rest)) s = .next (s.commitLabel 0x02 .noopRange) :=
  if_neg fun hin => by rw [timerInRange_iff] at hin; omega

theorem exec_updateTimer_of_le {m sec : Byte} (hm : m.toNat ≤ 99) (hsec : sec.toNat ≤ 59) (rest : List Byte)
    {s : State} {d : Vector Byte 6} (hd : build m sec s.redScore = some d) :
    exec (.updateTimer (m :: sec :: rest)) s = .next { s with
      minutes := m, seconds := sec, dbuf := d, trace := s.trace ++ [.label (.commit 0x02 .applied)] } :=
  (if_pos (timerInRange_iff.mpr ⟨hm, hsec⟩)).trans (rebuildDisplay_of_build hd)

/-! ## The phase commands and PING (R123 to R126) -/

theorem exec_startMatch (data : List Byte) (s : State) :
    exec (.startMatch data) s = .next ((s.enterPhase .active true).commitLabel 0x03 .applied) := rfl

theorem exec_stopMatch (data : List Byte) (s : State) :
    exec (.stopMatch data) s = .next ((s.enterPhase .paused false).commitLabel 0x04 .applied) := rfl

theorem exec_resetMatch (data : List Byte) (s : State) : exec (.resetMatch data) s = execResetMatch data s := rfl

theorem exec_ping (data : List Byte) (s : State) :
    exec (.ping data) s = .next ((s.emitTx pingReply).commitLabel 0x06 .applied) := rfl

/-! ## SET_LED (R127) -/

theorem exec_setLed_of_short {data : List Byte} (h : data.length < 2) (s : State) :
    exec (.setLed data) s = .next (s.commitLabel 0x07 .noopShort) := by
  simp only [exec, execSetLed, twoOperands_eq_none.mpr h]

theorem exec_setLed_of_value {alliance state : Byte} {a : Alliance} {v : Bool} (ha : allianceOf alliance = some a)
    (hv : setLedState state = some v) (rest : List Byte) (s : State) :
    exec (.setLed (alliance :: state :: rest)) s = .next ((s.setAllianceFlag a v).commitLabel 0x07 .applied) := by
  simp only [exec, execSetLed, twoOperands, ha, hv]

/-- Either byte not acted on makes the whole command a no-op; the label says which (log 17). -/
theorem exec_setLed_of_none {alliance state : Byte} (h : allianceOf alliance = none ∨ setLedState state = none)
    (rest : List Byte) (s : State) :
    ∃ e, exec (.setLed (alliance :: state :: rest)) s = .next (s.commitLabel 0x07 e) := by
  simp only [exec, execSetLed, twoOperands]
  match ha : allianceOf alliance, hv : setLedState state with
  | none, some _ => exact ⟨.noopAlliance, rfl⟩
  | some _, none => exact ⟨.noopSetLedState, rfl⟩
  | none, none => exact ⟨setLedBothEffect alliance state, rfl⟩
  | some _, some _ => simp [ha, hv] at h

end Sys2Proof.Machine
end

section
/-! PROOF. The effect of each command, with its frame (spec 41_commands.md R121 to R127). -/

namespace Sys2Proof.Machine

/-- Settles O1 (R121): too short, out of range, applied. -/
theorem updateScoreEffect : Obligations.UpdateScoreEffect := by
  intro data s hmin hsec
  refine ⟨fun hshort => ⟨_, exec_updateScore_of_short hshort s⟩, ?_⟩
  rintro red blue rest rfl
  refine ⟨?rejected, ?applied⟩
  case rejected => intro hout; exact ⟨_, exec_updateScore_of_gt hout rest s⟩
  case applied =>
    intro hred hblue
    obtain ⟨d, hd⟩ := build_isSome hmin hsec hred
    exact ⟨d, _, hd, exec_updateScore_of_le hred hblue rest hd⟩

/-- Settles O2 (R122): too short, out of range, applied; the build takes seconds up to 99, the check up to 59. -/
theorem updateTimerEffect : Obligations.UpdateTimerEffect := by
  intro data s hred
  refine ⟨fun hshort => ⟨_, exec_updateTimer_of_short hshort s⟩, ?_⟩
  rintro m sec rest rfl
  refine ⟨?rejected, ?applied⟩
  case rejected => intro hout; exact ⟨_, exec_updateTimer_of_gt hout rest s⟩
  case applied =>
    intro hm hsec
    obtain ⟨d, hd⟩ := build_isSome hm (show sec.toNat ≤ 99 by omega) hred
    exact ⟨d, _, hd, exec_updateTimer_of_le hm hsec rest hd⟩

/-- Settles O3 (R123). -/
theorem startMatchEffect : Obligations.StartMatchEffect := fun data s =>
  ⟨_, by rw [exec_startMatch, commitLabel_eq, enterPhase_eq]⟩

/-- Settles O4 (R124). -/
theorem stopMatchEffect : Obligations.StopMatchEffect := fun data s =>
  ⟨_, by rw [exec_stopMatch, commitLabel_eq, enterPhase_eq]⟩

/-- Settles O5 (R125): the buffer written is the build of the defaults. -/
theorem resetMatchEffect : Obligations.ResetMatchEffect :=
  ⟨resetBuffer, build_defaults, fun data s => ⟨_, (exec_resetMatch data s).trans (execResetMatch_eq data s)⟩⟩

/-- Settles O6 (R126). -/
theorem pingEffect : Obligations.PingEffect := fun data s =>
  ⟨_, by rw [exec_ping, commitLabel_eq, emitTx_eq, pingReply]⟩

/-- Settles O7 (R127): too short, a byte not acted on, and each alliance's own flag. -/
theorem setLedEffect : Obligations.SetLedEffect := by
  refine ⟨setLedState_zero, setLedState_one, fun data s => ⟨fun hshort => ⟨_, exec_setLed_of_short hshort s⟩, ?_⟩⟩
  rintro alliance state rest rfl
  refine ⟨?badAlliance, ?noValue, ?red, ?blue⟩
  case badAlliance =>
    intro h1 h2
    obtain ⟨_, he⟩ := exec_setLed_of_none (.inl (allianceOf_of_ne h1 h2)) rest s
    exact ⟨_, he⟩
  case noValue =>
    intro hnone
    obtain ⟨_, he⟩ := exec_setLed_of_none (.inr hnone) rest s
    exact ⟨_, he⟩
  case red =>
    rintro v hv rfl
    exact ⟨_, by rw [exec_setLed_of_value allianceOf_one hv, setAllianceFlag_red, commitLabel_eq]⟩
  case blue =>
    rintro v hv rfl
    exact ⟨_, by rw [exec_setLed_of_value allianceOf_two hv, setAllianceFlag_blue, commitLabel_eq]⟩

end Sys2Proof.Machine
end

section
/-! PROOF. What a tick and an indicator update do in a step, through the registers they read (spec 42_display.md R146, R150). -/

namespace Sys2Proof.Machine

/-! ## Using up a move leaves what the tick and the update read in place (log 1) -/

@[simp] theorem State.afterMove_dbuf (s : State) : s.afterMove.dbuf = s.dbuf := by
  obtain ⟨a, n, h⟩ := afterMove_eq s; rw [h]

@[simp] theorem State.afterMove_cursor (s : State) : s.afterMove.cursor = s.cursor := by
  obtain ⟨a, n, h⟩ := afterMove_eq s; rw [h]

@[simp] theorem State.afterMove_segOut (s : State) : s.afterMove.segOut = s.segOut := by
  obtain ⟨a, n, h⟩ := afterMove_eq s; rw [h]

@[simp] theorem State.afterMove_redLive (s : State) : s.afterMove.redLive = s.redLive := by
  obtain ⟨a, n, h⟩ := afterMove_eq s; rw [h]; rfl

@[simp] theorem State.afterMove_blueLive (s : State) : s.afterMove.blueLive = s.blueLive := by
  obtain ⟨a, n, h⟩ := afterMove_eq s; rw [h]; rfl

/-! ## What the tick and the update write -/

/-- The one-hot of a slot, which the model shifts into place, is the power of two of R146. -/
theorem onehot6_eq_ofNat (c : Fin 6) : onehot6 c = BitVec.ofNat 6 (2 ^ c.val) := by
  revert c; decide

theorem redLive_of_active {s : State} (h : s.phase = .active) : s.redLive = s.redFlag := by
  simp [State.redLive, State.matchActive, h]

theorem blueLive_of_active {s : State} (h : s.phase = .active) : s.blueLive = s.blueFlag := by
  simp [State.blueLive, State.matchActive, h]

theorem redLive_of_ne_active {s : State} (h : s.phase ≠ .active) : s.redLive = false := by
  simp [State.redLive, State.matchActive, h]

theorem blueLive_of_ne_active {s : State} (h : s.phase ≠ .active) : s.blueLive = false := by
  simp [State.blueLive, State.matchActive, h]

/-! ## The step of T, and of F with an update due -/

theorem step_of_tick {s : State} (hmove : s.nextMove = .tick) : step s = .next (tick s.afterMove) := by
  rw [step_of_nextMove hmove, runMove]

/-- In `WaitStart` a due update goes before any receive event (R100). -/
theorem foreground_of_update_due {s : State} (hf : s.fstate = .waitStart) (hdue : s.indDue = true) :
    foreground s = .next (indicatorUpdate s) := if_pos ⟨hf, hdue⟩

theorem step_of_update_due {s : State} (hmove : s.nextMove = .foreground) (hf : s.fstate = .waitStart)
    (hdue : s.indDue = true) : step s = .next (indicatorUpdate s.afterMove) := by
  rw [step_of_nextMove hmove, runMove, foreground_of_update_due (by simpa using hf) (by simpa using hdue)]

end Sys2Proof.Machine
end

section
/-! PROOF. The effect of the tick and of the indicator update, with their frames (spec 42_display.md R146 and R150). -/

namespace Sys2Proof.Machine

/-- Settles O37 (R146): the closed form of the tick, with its one-hot, low seven bits and next cursor as R146 writes them. -/
theorem tickEffect : Obligations.TickEffect := by
  intro s hmove
  rw [step_of_tick hmove, tick_eq]
  simp only [State.afterMove_cursor, State.afterMove_dbuf, State.afterMove_segOut, State.afterMove_trace,
    onehot6_eq_ofNat, segments, nextCursor]

/-- Settles O41 (R150): the phase alone decides between the stored flags and both outputs off. -/
theorem indicatorUpdateEffect : Obligations.IndicatorUpdateEffect := by
  intro s hmove hf hdue
  rw [step_of_update_due hmove hf hdue, indicatorUpdate_eq, State.afterMove_redLive, State.afterMove_blueLive]
  refine ⟨?active, ?inactive⟩
  case active => intro hphase; rw [redLive_of_active hphase, blueLive_of_active hphase]
  case inactive => intro hphase; rw [redLive_of_ne_active hphase, blueLive_of_ne_active hphase]

end Sys2Proof.Machine
end

section
/-! PROOF. Facts about the command map, the fold and the decoder (spec 30_encoding.md R70 to R79): what `decode` answers on
framed bytes, and what bytes it answers on. -/

namespace Sys2Proof.Machine

/-! ## The command map and the code, length and data of an instruction (R76) -/

theorem lengthLegal_iff {data : List Byte} : lengthLegal data = true ↔ data.length ≤ 10 := decide_eq_true_iff

theorem codeUnknown_iff {code : Byte} : codeUnknown code = true ↔ code = 0 ∨ 8 ≤ code.toNat := by
  simp [codeUnknown]

/-- R73 and R76: at most ten data bytes, and the code of an unknown command is none of the seven. -/
theorem wellFormed_iff {i : Instr} :
    i.wellFormed = true ↔ i.data.length ≤ 10 ∧ ∀ code data, i = .unknown code data → code = 0 ∨ 8 ≤ code.toNat := by
  cases i with
  | unknown code data =>
    simp only [Instr.wellFormed, Bool.and_eq_true, lengthLegal_iff, codeUnknown_iff, Instr.data]
    exact ⟨fun ⟨hcode, hlen⟩ => ⟨hlen, by rintro _ _ ⟨⟩; exact hcode⟩, fun ⟨hlen, hcode⟩ => ⟨hcode _ _ rfl, hlen⟩⟩
  | _ => simp [Instr.wellFormed, lengthLegal_iff, Instr.data]

theorem length_data_le {i : Instr} (h : i.wellFormed = true) : i.data.length ≤ 10 := (wellFormed_iff.mp h).1

theorem toNat_lenByte {i : Instr} (h : i.wellFormed = true) : i.lenByte.toNat = i.data.length := by
  have hlen := length_data_le h
  simp only [Instr.lenByte, BitVec.toNat_ofNat]
  omega

/-- A code that selects no command is none of the seven. -/
theorem decodeCommand_unknown {code : Byte} (h : code = 0 ∨ 8 ≤ code.toNat) (data : List Byte) :
    decodeCommand code data = .unknown code data := by
  have hne : ∀ k : Byte, k ≠ 0 → k.toNat < 8 → code ≠ k := by
    rintro k hk hlt rfl
    exact h.elim hk (by omega)
  simp [decodeCommand, hne]

/-- Decoding the code and the data of a packet gives its instruction back. -/
theorem decodeCommand_code_data {i : Instr} (h : i.wellFormed = true) : decodeCommand i.code i.data = i := by
  cases i with
  | unknown code data => exact decodeCommand_unknown ((wellFormed_iff.mp h).2 code data rfl) data
  | _ => rfl

/-- The command map's answers, with what the command byte was: one of the seven, or a byte that selects none of them. -/
theorem decodeCommand_cases (cmd : Byte) (data : List Byte) :
    (cmd = 1 ∧ decodeCommand cmd data = .updateScore data) ∨ (cmd = 2 ∧ decodeCommand cmd data = .updateTimer data) ∨
    (cmd = 3 ∧ decodeCommand cmd data = .startMatch data) ∨ (cmd = 4 ∧ decodeCommand cmd data = .stopMatch data) ∨
    (cmd = 5 ∧ decodeCommand cmd data = .resetMatch data) ∨ (cmd = 6 ∧ decodeCommand cmd data = .ping data) ∨
    (cmd = 7 ∧ decodeCommand cmd data = .setLed data) ∨
    ((cmd = 0 ∨ 8 ≤ cmd.toNat) ∧ decodeCommand cmd data = .unknown cmd data) := by
  by_cases hcmd : cmd = 0 ∨ 8 ≤ cmd.toNat
  · exact .inr <| .inr <| .inr <| .inr <| .inr <| .inr <| .inr ⟨hcmd, decodeCommand_unknown hcmd data⟩
  · have : cmd = 1 ∨ cmd = 2 ∨ cmd = 3 ∨ cmd = 4 ∨ cmd = 5 ∨ cmd = 6 ∨ cmd = 7 := by bv_omega
    rcases this with rfl | rfl | rfl | rfl | rfl | rfl | rfl <;> simp [decodeCommand]

@[simp] theorem code_decodeCommand (cmd : Byte) (data : List Byte) : (decodeCommand cmd data).code = cmd := by
  obtain ⟨rfl, h⟩ | ⟨rfl, h⟩ | ⟨rfl, h⟩ | ⟨rfl, h⟩ | ⟨rfl, h⟩ | ⟨rfl, h⟩ | ⟨rfl, h⟩ | ⟨-, h⟩ :=
    decodeCommand_cases cmd data <;> rw [h] <;> rfl

@[simp] theorem data_decodeCommand (cmd : Byte) (data : List Byte) : (decodeCommand cmd data).data = data := by
  unfold decodeCommand; split_ifs <;> rfl

/-- The command map makes no unknown command of a known code. -/
theorem wellFormed_decodeCommand {data : List Byte} (h : data.length ≤ 10) (cmd : Byte) :
    (decodeCommand cmd data).wellFormed = true := by
  refine wellFormed_iff.mpr ⟨by simpa using h, fun code d heq => ?_⟩
  obtain ⟨-, h⟩ | ⟨-, h⟩ | ⟨-, h⟩ | ⟨-, h⟩ | ⟨-, h⟩ | ⟨-, h⟩ | ⟨-, h⟩ | ⟨hcmd, h⟩ := decodeCommand_cases cmd data <;>
    rw [h] at heq <;> cases heq
  exact hcmd

/-! ## The fold (R74) -/

theorem xorFold_cons (cmd len d : Byte) (data : List Byte) : xorFold cmd len (d :: data) = xorFold (cmd ^^^ d) len data := by
  simp only [xorFold, List.foldl_cons, BitVec.xor_assoc, BitVec.xor_comm len d]

/-- The command byte enters the fold once. -/
theorem xorFold_eq_xor (cmd len : Byte) (data : List Byte) : xorFold cmd len data = cmd ^^^ xorFold 0 len data := by
  induction data generalizing cmd with
  | nil => simp [xorFold]
  | cons d data ih => rw [xorFold_cons, ih, xorFold_cons, ih (0 ^^^ d)]; simp [BitVec.xor_assoc]

theorem xorFold_cmd_inj {c c' len : Byte} {data : List Byte} : xorFold c len data = xorFold c' len data ↔ c = c' := by
  rw [xorFold_eq_xor c, xorFold_eq_xor c', BitVec.xor_left_inj]

/-- Each data byte enters the fold once, wherever it stands. -/
theorem xorFold_set_inj (cmd len b : Byte) {data : List Byte} {k : Nat} (h : k < data.length) :
    xorFold cmd len (data.set k b) = xorFold cmd len data ↔ b = data[k] := by
  induction data generalizing cmd k with
  | nil => simp at h
  | cons d data ih =>
    cases k with
    | zero => simp only [List.set_cons_zero, xorFold_cons, xorFold_cmd_inj, BitVec.xor_right_inj, List.getElem_cons_zero]
    | succ k => simpa only [List.set_cons_succ, xorFold_cons, List.getElem_cons_succ] using ih (cmd ^^^ d) (by simpa using h)

/-! ## The decoder on framed bytes, and what it accepts (R70 to R75) -/

theorem decode_startMarker (cmd len : Byte) (body : List Byte) :
    decode (Config.startMarker :: cmd :: len :: body) =
      if Config.maxLen < len.toNat then .error .length else decodeTail cmd len body := by
  simp [decode]

/-- Where the data has the length that `LEN` says: the end marker is checked first, then the checksum (40_framer.md R107). -/
theorem decodeTail_append {len : Byte} {data : List Byte} (hlen : data.length = len.toNat) (cmd chk last : Byte)
    (tail : List Byte) :
    decodeTail cmd len (data ++ chk :: last :: tail) =
      if last ≠ Config.endMarker then .error .endMarker
      else if chk ≠ xorFold cmd len data then .error .checksum
      else .ok (decodeCommand cmd data, tail) := by
  simp only [decodeTail, List.drop_left' hlen, List.take_left' hlen]

/-- Bytes laid out as a packet are read as the checksum byte decides. -/
theorem decode_framed {len : Byte} {data : List Byte} (hlen : data.length = len.toNat) (hmax : data.length ≤ 10)
    (cmd chk : Byte) (tail : List Byte) :
    decode (Config.startMarker :: cmd :: len :: (data ++ chk :: Config.endMarker :: tail)) =
      if chk = xorFold cmd len data then .ok (decodeCommand cmd data, tail) else .error .checksum := by
  rw [decode_startMarker, if_neg (not_maxLen_lt (hlen ▸ hmax)), decodeTail_append hlen, if_neg (by simp)]
  by_cases hchk : chk = xorFold cmd len data <;> simp [hchk]

theorem decodeTail_eq_ok {cmd len : Byte} {body tail : List Byte} {i : Instr} (h : decodeTail cmd len body = .ok (i, tail)) :
    ∃ data, data.length = len.toNat ∧ i = decodeCommand cmd data ∧
      body = data ++ xorFold cmd len data :: Config.endMarker :: tail := by
  unfold decodeTail at h
  split at h
  case h_1 chk last after hdrop =>
    split at h
    · cases h
    · split at h
      · cases h
      · rename_i hlast hchk
        cases h
        refine ⟨body.take len.toNat, ?_, rfl, ?_⟩
        · have := congrArg List.length hdrop
          simp only [List.length_drop, List.length_cons] at this
          simp only [List.length_take]
          omega
        · rw [← not_not.mp hchk, ← not_not.mp hlast, ← hdrop, List.take_append_drop]
  case h_2 => cases h

/-- Everything the decoder accepts is laid out as R70 says, with the right length, checksum and end marker. -/
theorem decode_eq_ok {bytes tail : List Byte} {i : Instr} (h : decode bytes = .ok (i, tail)) :
    ∃ cmd len data, data.length = len.toNat ∧ data.length ≤ 10 ∧ i = decodeCommand cmd data ∧
      bytes = Config.startMarker :: cmd :: len :: (data ++ xorFold cmd len data :: Config.endMarker :: tail) := by
  match bytes with
  | [] => cases h
  | first :: rest =>
    by_cases hfirst : first = Config.startMarker
    · subst hfirst
      match rest with
      | [] => simp [decode] at h
      | [_] => simp [decode] at h
      | cmd :: len :: body =>
        rw [decode_startMarker] at h
        split at h
        · cases h
        · rename_i hmax
          obtain ⟨data, hlen, rfl, rfl⟩ := decodeTail_eq_ok h
          exact ⟨cmd, len, data, hlen, hlen ▸ Nat.le_of_not_lt hmax, rfl, rfl⟩
    · simp [decode, hfirst] at h

theorem encodeWith_append (i : Instr) (chk : Byte) (rest : List Byte) :
    encodeWith i chk ++ rest = Config.startMarker :: i.code :: i.lenByte :: (i.data ++ chk :: Config.endMarker :: rest) := by
  simp [encodeWith]

end Sys2Proof.Machine
end

section
/-! PROOF. Decode and encode agree, and what the checksum catches (spec 30_encoding.md R70 to R79). -/

namespace Sys2Proof.Machine

/-- Settles O16: the packet carries its own fold, so the decoder takes it and maps its code and data back. -/
theorem decodeOfEncodeIsTheInstr : Obligations.DecodeOfEncodeIsTheInstr := by
  intro i rest hwf
  rw [encode, encodeWith_append, decode_framed (toNat_lenByte hwf).symm (length_data_le hwf), Instr.checksum, if_pos rfl,
    decodeCommand_code_data hwf]

/-- Settles O17: the bytes of an accepted packet are the encoding of what the command map makes of them. -/
theorem acceptedBytesAreTheEncoding : Obligations.AcceptedBytesAreTheEncoding := by
  intro bytes rest i h
  obtain ⟨cmd, len, data, hlen, hmax, rfl, rfl⟩ := decode_eq_ok h
  refine ⟨wellFormed_decodeCommand hmax cmd, ?_⟩
  have hbyte : (decodeCommand cmd data).lenByte = len := by simp [Instr.lenByte, hlen]
  rw [encode, encodeWith_append, Instr.checksum, hbyte, code_decodeCommand, data_decodeCommand]

/-- Settles O18: each is the packet of its command, computed. -/
theorem canonicalPacketsDecode : Obligations.CanonicalPacketsDecode := by
  unfold Obligations.CanonicalPacketsDecode
  decide

/-- Settles O19. -/
theorem wrongChecksumRejected : Obligations.WrongChecksumRejected := by
  intro i chk rest hwf hchk
  rw [encodeWith_append, decode_framed (toNat_lenByte hwf).symm (length_data_le hwf)]
  exact if_neg hchk

/-- Settles O20: the fold is injective in the command byte and in each data byte. -/
theorem singleByteErrorRejected : Obligations.SingleByteErrorRejected := by
  intro i rest hwf
  refine ⟨fun c hc => ?command, fun k b hk hb => ?data⟩
  case command =>
    have hframed := decode_framed (toNat_lenByte hwf).symm (length_data_le hwf) c i.checksum rest
    rw [if_neg fun heq => hc (xorFold_cmd_inj.mp heq.symm)] at hframed
    simp only [List.cons_append, List.append_assoc, List.nil_append]
    exact hframed
  case data =>
    have hlen : (i.data.set k b).length = i.data.length := List.length_set
    have hframed := decode_framed (hlen.trans (toNat_lenByte hwf).symm) (hlen.trans_le (length_data_le hwf)) i.code
      i.checksum rest
    rw [if_neg fun heq => hb ((xorFold_set_inj i.code i.lenByte b hk).mp heq.symm)] at hframed
    simp only [List.cons_append, List.append_assoc, List.nil_append]
    exact hframed

/-- Settles O21: XOR commutes, so the fold does not see the order. -/
theorem checksumIgnoresDataOrder : Obligations.ChecksumIgnoresDataOrder := by
  intro cmd len d d' hperm
  have : RightCommutative fun acc d : Byte => acc ^^^ d :=
    ⟨fun a b c => by rw [BitVec.xor_assoc, BitVec.xor_comm b c, BitVec.xor_assoc]⟩
  exact hperm.foldl_eq (cmd ^^^ len)

/-- Settles O22: the length bound is checked before anything that follows `LEN`. -/
theorem lengthViolationRejected : Obligations.LengthViolationRejected := fun cmd len rest hlen =>
  (decode_startMarker cmd len rest).trans (if_pos hlen)

end Sys2Proof.Machine
end

section
/-! PROOF. Changes of state that a command does not see: `exec` commutes with every map of states that leaves alone what the
commands read and write. Three such maps serve later: another phase, other scratch registers, and no driver. -/

namespace Sys2Proof.Machine

/-- An outcome with its next state mapped. -/
def mapNext (f : State → State) : Host.Outcome State Fault Refusal → Host.Outcome State Fault Refusal
  | .next s => .next (f s)
  | .fault r => .fault r
  | .refused r => .refused r

@[simp] theorem mapNext_next (f : State → State) (s : State) : mapNext f (.next s) = .next (f s) := rfl

@[simp] theorem mapNext_fault (f : State → State) (r : Fault) : mapNext f (.fault r) = .fault r := rfl

theorem mapNext_eq_next {f : State → State} {o : Host.Outcome State Fault Refusal} {t : State} :
    mapNext f o = .next t ↔ ∃ s, o = .next s ∧ f s = t := by
  cases o <;> simp [mapNext]

/-- `f` commutes with the writes of the commands that do not write `PHASE`, and leaves the values the rebuild reads (R142). -/
structure CommandBlind (f : State → State) : Prop where
  minutes : ∀ s, (f s).minutes = s.minutes
  seconds : ∀ s, (f s).seconds = s.seconds
  redScore : ∀ s, (f s).redScore = s.redScore
  setScores : ∀ s red blue, (f s).setScores red blue = f (s.setScores red blue)
  setTimer : ∀ s m sec, (f s).setTimer m sec = f (s.setTimer m sec)
  setDbuf : ∀ s d, (f s).setDbuf d = f (s.setDbuf d)
  setAllianceFlag : ∀ s a v, (f s).setAllianceFlag a v = f (s.setAllianceFlag a v)
  emitTx : ∀ s bytes, (f s).emitTx bytes = f (s.emitTx bytes)
  commitLabel : ∀ s cmd e, (f s).commitLabel cmd e = f (s.commitLabel cmd e)

section
variable {f : State → State} (hf : CommandBlind f)
include hf

theorem CommandBlind.rebuildDisplay (s : State) : (f s).rebuildDisplay = mapNext f s.rebuildDisplay := by
  unfold State.rebuildDisplay
  rw [hf.minutes, hf.seconds, hf.redScore]
  cases build s.minutes s.seconds s.redScore with
  | none => rfl
  | some d => simp only [mapNext_next, hf.setDbuf]

theorem CommandBlind.exec_updateScore (data : List Byte) (s : State) :
    exec (.updateScore data) (f s) = mapNext f (exec (.updateScore data) s) := by
  simp only [exec, execUpdateScore]
  match twoOperands data with
  | none => simp only [hf.commitLabel, mapNext_next]
  | some (red, blue) =>
    by_cases hr : scoresInRange red blue = true
    · simp only [hr, if_true, hf.setScores, hf.commitLabel, hf.rebuildDisplay]
    · simp only [hr, hf.commitLabel]; rfl

theorem CommandBlind.exec_updateTimer (data : List Byte) (s : State) :
    exec (.updateTimer data) (f s) = mapNext f (exec (.updateTimer data) s) := by
  simp only [exec, execUpdateTimer]
  match twoOperands data with
  | none => simp only [hf.commitLabel, mapNext_next]
  | some (m, sec) =>
    by_cases hr : timerInRange m sec = true
    · simp only [hr, if_true, hf.setTimer, hf.commitLabel, hf.rebuildDisplay]
    · simp only [hr, hf.commitLabel]; rfl

theorem CommandBlind.exec_setLed (data : List Byte) (s : State) :
    exec (.setLed data) (f s) = mapNext f (exec (.setLed data) s) := by
  simp only [exec, execSetLed]
  match twoOperands data with
  | none => simp only [hf.commitLabel, mapNext_next]
  | some (alliance, state) =>
    match ha : allianceOf alliance, hv : setLedState state with
    | some a, some v => simp only [ha, hv, hf.setAllianceFlag, hf.commitLabel, mapNext_next]
    | none, some _ => simp only [ha, hv, hf.commitLabel, mapNext_next]
    | some _, none => simp only [ha, hv, hf.commitLabel, mapNext_next]
    | none, none => simp only [ha, hv, hf.commitLabel, mapNext_next]

/-- A command that does not write `PHASE` acts the same on both sides of `f`. -/
theorem CommandBlind.exec_map_of_keepsPhase {i : Instr} (hstart : ∀ d, i ≠ .startMatch d) (hstop : ∀ d, i ≠ .stopMatch d)
    (hreset : ∀ d, i ≠ .resetMatch d) (s : State) : exec i (f s) = mapNext f (exec i s) := by
  cases i with
  | updateScore data => exact hf.exec_updateScore data s
  | updateTimer data => exact hf.exec_updateTimer data s
  | startMatch data => exact absurd rfl (hstart data)
  | stopMatch data => exact absurd rfl (hstop data)
  | resetMatch data => exact absurd rfl (hreset data)
  | ping data => simp only [exec_ping, hf.emitTx, hf.commitLabel, mapNext_next]
  | setLed data => exact hf.exec_setLed data s
  | unknown code data => simp only [exec, execUnknown, hf.commitLabel, mapNext_next]

/-- Where `f` commutes with the write of the phase and its flags too, every command acts the same on both sides of it. -/
theorem CommandBlind.exec_map (hphase : ∀ s p v, (f s).enterPhase p v = f (s.enterPhase p v)) (i : Instr) (s : State) :
    exec i (f s) = mapNext f (exec i s) := by
  cases i with
  | startMatch data => simp only [exec_startMatch, hphase, hf.commitLabel, mapNext_next]
  | stopMatch data => simp only [exec_stopMatch, hphase, hf.commitLabel, mapNext_next]
  | resetMatch data =>
    simp only [exec_resetMatch, execResetMatch, hf.setTimer, hf.setScores, hphase, hf.commitLabel, hf.rebuildDisplay]
  | _ => exact hf.exec_map_of_keepsPhase (by nofun) (by nofun) (by nofun) s

end

end Sys2Proof.Machine
end

section
/-! PROOF. Phase independence (41_commands.md). -/

namespace Sys2Proof.Machine

theorem commandBlind_setPhase (p : Phase) : CommandBlind fun s => s.setPhase p where
  minutes _ := rfl
  seconds _ := rfl
  redScore _ := rfl
  setScores _ _ _ := rfl
  setTimer _ _ _ := rfl
  setDbuf _ _ := rfl
  setAllianceFlag _ a _ := by cases a <;> rfl
  emitTx _ _ := rfl
  commitLabel _ _ _ := rfl

/-- Settles O11: replacing the phase commutes with every command that does not write it. -/
theorem effectIndependentOfPhase : Obligations.EffectIndependentOfPhase := by
  intro i p s t hstart hstop hreset h
  have hcomm := (commandBlind_setPhase p).exec_map_of_keepsPhase hstart hstop hreset s
  rw [h] at hcomm
  exact hcomm

end Sys2Proof.Machine
end

section
/-! PROOF. Scratch registers that the framer writes before it reads cannot be observed (40_framer.md R113). -/

namespace Sys2Proof.Machine

/-! ## A state with the scratch registers of another -/

/-- `s` with `CMD`, `LEN`, `DATA`, `IDX` and `CHK` of `u`. -/
def State.withScratch (s u : State) : State :=
  { s with cmd := u.cmd, len := u.len, data := u.data, idx := u.idx, chk := u.chk }

theorem commandBlind_withScratch (u : State) : CommandBlind fun s => s.withScratch u where
  minutes _ := rfl
  seconds _ := rfl
  redScore _ := rfl
  setScores _ _ _ := rfl
  setTimer _ _ _ := rfl
  setDbuf _ _ := rfl
  setAllianceFlag _ a _ := by cases a <;> rfl
  emitTx _ _ := rfl
  commitLabel _ _ _ := rfl

/-- A commit neither reads nor writes the scratch registers. -/
theorem exec_withScratch (i : Instr) (s u : State) : exec i (s.withScratch u) = mapNext (·.withScratch u) (exec i s) :=
  (commandBlind_withScratch u).exec_map (fun _ _ _ => rfl) i s

theorem withScratch_afterMove (s u : State) : (s.withScratch u).afterMove = s.afterMove.withScratch u := by
  simp only [State.afterMove, show (s.withScratch u).agenda = s.agenda from rfl]
  cases s.agenda <;> rfl

theorem take_succ_set (v : Vector Byte 10) {k : Nat} (hk : k < 10) (b : Byte) :
    (v.set k b).toList.take (k + 1) = v.toList.take k ++ [b] := by
  have hover : v.set k b = overwriteData k [b] v := (setIfInBounds_of_lt v hk b).symm
  rw [hover, overwriteData_toList [b] k v hk]
  exact List.take_left' (by simp; omega)

/-! ## Building the relation -/

theorem SameButScratch.eq_withScratch {s t : State} (h : SameButScratch s t) : t = s.withScratch t := h.rest

theorem SameButScratch.exists_scratch {s t : State} (h : SameButScratch s t) :
    ∃ cmd len data idx chk, t = { s with cmd := cmd, len := len, data := data, idx := idx, chk := chk } :=
  ⟨_, _, _, _, _, h.rest⟩

theorem SameButScratch.refl (s : State) : SameButScratch s s where
  rest := rfl
  cmd _ _ := rfl
  len _ := rfl
  idx _ := ⟨rfl, rfl⟩
  data _ := rfl
  chk _ := rfl

/-- In `WaitStart` no scratch register counts. -/
theorem SameButScratch.of_waitStart {s : State} (hf : s.fstate = .waitStart) (u : State) :
    SameButScratch s (s.withScratch u) where
  rest := rfl
  cmd h := absurd hf h
  len h := by simp [hf] at h
  idx h := by simp [hf] at h
  data h := by simp [hf] at h
  chk h := by simp [hf] at h

/-- A write outside the framer's registers keeps the relation. -/
theorem SameButScratch.of_frame {s t s' : State} (h : SameButScratch s t) (hscratch : s'.withScratch s = s')
    (hf : s'.fstate = s.fstate) : SameButScratch s' (s'.withScratch t) := by
  rw [← hscratch]
  have hf' : (s'.withScratch s).fstate = s.fstate := hf
  exact {
    rest := rfl
    cmd := fun h1 h2 => h.cmd (hf' ▸ h1) (hf' ▸ h2)
    len := fun h1 => h.len (hf' ▸ h1)
    idx := fun h1 => h.idx (hf' ▸ h1)
    data := fun h1 => h.data (hf' ▸ h1)
    chk := fun h1 => h.chk (hf' ▸ h1) }

/-! ## The byte step of each framer state, and the timeout step -/

section
variable {s t s' : State} (h : SameButScratch s t) (b : Byte)
include h

theorem SameButScratch.after_setRxq (q : List RxEvent) : SameButScratch (s.setRxq q) (t.setRxq q) := by
  rw [h.eq_withScratch]
  exact h.of_frame (s' := s.setRxq q) rfl rfl

theorem SameButScratch.after_dropPacket (l : Label) : SameButScratch (s.dropPacket l) (t.dropPacket l) := by
  rw [h.eq_withScratch]
  exact .of_waitStart (s := s.dropPacket l) rfl t

theorem SameButScratch.after_waitStartStep : SameButScratch (waitStartStep b s) (waitStartStep b t) := by
  by_cases hb : b = Config.startMarker
  · obtain ⟨c, l, d, i, k, rfl⟩ := h.exists_scratch
    subst hb
    rw [waitStartStep, waitStartStep, if_pos rfl, if_pos rfl]
    constructor <;> simp [State.setFState]
  · rw [waitStartStep, waitStartStep, if_neg hb, if_neg hb]
    exact h.after_dropPacket _

theorem SameButScratch.after_readCmdStep : SameButScratch (readCmdStep b s) (readCmdStep b t) := by
  obtain ⟨c, l, d, i, k, rfl⟩ := h.exists_scratch
  constructor <;> simp [readCmdStep, State.setFState, State.setCmd]

theorem SameButScratch.after_readLenStep (hf : s.fstate = .readLen) :
    SameButScratch (readLenStep b s) (readLenStep b t) := by
  have hcmd : t.cmd = s.cmd := h.cmd (by simp [hf]) (by simp [hf])
  obtain ⟨c, l, d, i, k, rfl⟩ := h.exists_scratch
  obtain rfl : c = s.cmd := hcmd
  by_cases hmax : 10 < b.toNat
  · rw [readLenStep_of_gt hmax, readLenStep_of_gt hmax]
    exact .of_waitStart (s := (s.setLen b).dropPacket .dropLength) rfl
      (State.setLen { s with len := l, data := d, idx := i, chk := k } b)
  · by_cases h0 : b = 0
    · subst h0
      rw [readLenStep_zero, readLenStep_zero]
      constructor <;> simp [State.payload]
    · rw [readLenStep_of_le h0 (by omega), readLenStep_of_le h0 (by omega)]
      constructor <;> simp

theorem SameButScratch.after_readDataStep (hf : s.fstate = .readData) (hs : readDataStep b s = .next s') :
    ∃ t', readDataStep b t = .next t' ∧ SameButScratch s' t' := by
  obtain ⟨hidx, hdata⟩ := h.idx hf
  have hcmd : t.cmd = s.cmd := h.cmd (by simp [hf]) (by simp [hf])
  have hlen : t.len = s.len := h.len (.inl hf)
  obtain ⟨hi, -, -⟩ := readDataStep_next hs
  have hwritten : (t.data.set s.idx.val b).toList.take (s.idx.val + 1) =
      (s.data.set s.idx.val b).toList.take (s.idx.val + 1) := by
    rw [take_succ_set _ hi, take_succ_set _ hi, hdata]
  have hi' : t.idx.val < 10 := by rwa [hidx]
  refine ⟨_, readDataStep_of_lt hi' b, ?_⟩
  obtain ⟨c, l, d, i, k, rfl⟩ := h.exists_scratch
  obtain rfl : i = s.idx := hidx
  obtain rfl : l = s.len := hlen
  obtain rfl : c = s.cmd := hcmd
  cases (readDataStep_of_lt hi b).symm.trans hs
  exact {
    rest := rfl
    cmd := fun _ _ => rfl
    len := fun _ => rfl
    idx := fun _ => ⟨rfl, hwritten⟩
    data := fun hend => by
      have hfull : s.idx.val + 1 = s.len.toNat := by by_contra hne; simp [hne, hf] at hend
      rw [State.payload, State.payload, ← hfull]
      exact hwritten
    chk := fun hend => by split at hend <;> simp [hf] at hend }

theorem SameButScratch.after_readChkStep (hf : s.fstate = .readChk) :
    SameButScratch (readChkStep b s) (readChkStep b t) where
  rest := by obtain ⟨c, l, d, i, k, rfl⟩ := h.exists_scratch; rfl
  cmd _ _ := h.cmd (by simp [hf]) (by simp [hf])
  len _ := h.len (.inr (.inl hf))
  idx := nofun
  data _ := h.data (.inl hf)
  chk _ := rfl

theorem SameButScratch.after_readEndStep (hf : s.fstate = .readEnd) (hs : readEndStep b s = .next s') :
    ∃ t', readEndStep b t = .next t' ∧ SameButScratch s' t' := by
  have hcmd : t.cmd = s.cmd := h.cmd (by simp [hf]) (by simp [hf])
  have hlen : t.len = s.len := h.len (.inr (.inr hf))
  have hdata : t.payload = s.payload := h.data (.inr hf)
  have hchk : t.chk = s.chk := h.chk hf
  obtain ⟨hb, rfl⟩ | ⟨rfl, hmax, hbad, rfl⟩ | ⟨rfl, hmax, hgood, hcommit⟩ := readEndStep_next hs
  · exact ⟨_, readEndStep_of_ne hb t, h.after_dropPacket _⟩
  · exact ⟨_, readEndStep_of_chk_ne (hlen ▸ hmax) (by rwa [hchk, hcmd, hlen, hdata]), h.after_dropPacket _⟩
  · have hstart : t.endInvocation = s.endInvocation.withScratch t := by rw [h.eq_withScratch]; rfl
    refine ⟨s'.withScratch t, ?_, .of_waitStart (by rw [exec_next_writes hcommit]; rfl) t⟩
    rw [Config.endMarker, readEndStep_of_chk_eq (hlen ▸ hmax) (by rwa [hchk, hcmd, hlen, hdata]), hcmd, hdata, hstart,
      exec_withScratch, hcommit, mapNext_next]

theorem SameButScratch.after_byteStep (hs : byteStep b s = .next s') :
    ∃ t', byteStep b t = .next t' ∧ SameButScratch s' t' := by
  have hft : t.fstate = s.fstate := by rw [h.rest]
  cases hf : s.fstate with
  | waitStart =>
    cases (byteStep_waitStart hf b).symm.trans hs
    exact ⟨_, byteStep_waitStart (hft.trans hf) b, h.after_waitStartStep b⟩
  | readCmd =>
    cases (byteStep_readCmd hf b).symm.trans hs
    exact ⟨_, byteStep_readCmd (hft.trans hf) b, h.after_readCmdStep b⟩
  | readLen =>
    cases (byteStep_readLen hf b).symm.trans hs
    exact ⟨_, byteStep_readLen (hft.trans hf) b, h.after_readLenStep b hf⟩
  | readData =>
    rw [byteStep_readData hf] at hs
    rw [byteStep_readData (hft.trans hf)]
    exact h.after_readDataStep b hf hs
  | readChk =>
    cases (byteStep_readChk hf b).symm.trans hs
    exact ⟨_, byteStep_readChk (hft.trans hf) b, h.after_readChkStep b hf⟩
  | readEnd =>
    rw [byteStep_readEnd hf] at hs
    rw [byteStep_readEnd (hft.trans hf)]
    exact h.after_readEndStep b hf hs

theorem SameButScratch.after_timeoutStep : SameButScratch (timeoutStep s) (timeoutStep t) := by
  have hft : t.fstate = s.fstate := by rw [h.rest]
  by_cases hf : s.fstate = .waitStart
  · rwa [timeoutStep_waitStart hf, timeoutStep_waitStart (hft.trans hf)]
  · rw [timeoutStep_of_ne hf, timeoutStep_of_ne (hft ▸ hf)]
    exact h.after_dropPacket _

/-! ## Each agent's move -/

theorem SameButScratch.after_foreground (hs : foreground s = .next s') :
    ∃ t', foreground t = .next t' ∧ SameButScratch s' t' := by
  have hft : t.fstate = s.fstate := by rw [h.rest]
  have hdue : t.indDue = s.indDue := by rw [h.rest]
  have hrxq : t.rxq = s.rxq := by rw [h.rest]
  obtain ⟨hf, hd, e⟩ | ⟨hd, ⟨hq, e⟩ | ⟨rest, hq, e⟩ | ⟨b, rest, hq, e⟩⟩ := foreground_cases s
  · cases e.symm.trans hs
    refine ⟨_, foreground_of_update_due (hft.trans hf) (hdue.trans hd), ?_⟩
    rw [h.eq_withScratch]
    exact .of_waitStart (s := indicatorUpdate s) hf t
  · cases e.symm.trans hs
    exact ⟨t, by rw [foreground, if_neg (by rwa [hft, hdue]), hrxq, hq], h⟩
  · cases e.symm.trans hs
    exact ⟨_, foreground_of_timeout (by rwa [hft, hdue]) (hrxq.trans hq), (h.after_setRxq rest).after_timeoutStep⟩
  · rw [e] at hs
    rw [foreground_of_byte (by rwa [hft, hdue]) (hrxq.trans hq)]
    exact (h.after_setRxq rest).after_byteStep b hs

/-- The agents other than F read no scratch register; a reset writes them all. -/
theorem SameButScratch.after_runMove {m : Move} (hs : runMove m s = .next s') :
    ∃ t', runMove m t = .next t' ∧ SameButScratch s' t' := by
  cases m with
  | foreground => exact h.after_foreground hs
  | tick =>
    cases hs
    refine ⟨_, rfl, ?_⟩
    rw [h.eq_withScratch, tick_eq, tick_eq]
    exact h.of_frame (s' := { s with
      digSel := onehot6 s.cursor, segOut := segments (s.dbuf.get s.cursor), cursor := nextCursor s.cursor,
      trace := _ }) rfl rfl
  | rxByte b =>
    cases hs
    refine ⟨_, rfl, ?_⟩
    rw [h.eq_withScratch]
    exact h.of_frame (s' := s.appendRx (.byte b)) rfl rfl
  | rxTimeout =>
    cases hs
    refine ⟨_, rfl, ?_⟩
    unfold rxTimeoutEvent
    split
    · exact h
    · rw [h.eq_withScratch]
      exact h.of_frame (s' := s.appendRx .timeout) rfl rfl
  | txDrain =>
    cases hs
    refine ⟨_, rfl, ?_⟩
    have htxq : t.txq = s.txq := by rw [h.rest]
    unfold txDrainStep
    rw [htxq]
    match s.txq with
    | [] => exact h
    | b :: rest =>
      rw [h.eq_withScratch]
      exact h.of_frame (s' := (s.setTxq rest).record (.sent b)) rfl rfl
  | reset =>
    cases hs
    refine ⟨_, rfl, ?_⟩
    rw [h.eq_withScratch]
    exact .refl _

end

/-- Settles O36: using up the move and the agent's move each keep the relation. -/
theorem staleScratchIsUnobservable : Obligations.StaleScratchIsUnobservable := by
  intro s t s' h hs
  have hmove : t.nextMove = s.nextMove := by rw [h.rest]; rfl
  have hafter : SameButScratch s.afterMove t.afterMove := by
    rw [h.eq_withScratch, withScratch_afterMove]
    exact h.of_frame (by obtain ⟨a, n, e⟩ := afterMove_eq s; rw [e]; rfl) (by simp)
  rw [step_of_nextMove rfl] at hs
  rw [step_of_nextMove hmove]
  exact hafter.after_runMove hs

end Sys2Proof.Machine
end

section
/-! PROOF. The label that a commit leaves, one rule per row (spec 60_exceptions.md R160, 41_commands.md R121 to R128): `exec`
follows the rules, and each effect is read off them. -/

namespace Sys2Proof.Machine

/-- Which effect R160 names for the commit of an instruction. -/
inductive CommitRule : Instr → CommitEffect → Prop where
  | scoreShort {data} (h : data.length < 2) : CommitRule (.updateScore data) .noopShort
  | scoreRange {red blue rest} (h : 99 < red.toNat ∨ 99 < blue.toNat) :
      CommitRule (.updateScore (red :: blue :: rest)) .noopRange
  | scoreApplied {red blue rest} (hred : red.toNat ≤ 99) (hblue : blue.toNat ≤ 99) :
      CommitRule (.updateScore (red :: blue :: rest)) .applied
  | timerShort {data} (h : data.length < 2) : CommitRule (.updateTimer data) .noopShort
  | timerRange {m sec rest} (h : 99 < m.toNat ∨ 59 < sec.toNat) :
      CommitRule (.updateTimer (m :: sec :: rest)) .noopRange
  | timerApplied {m sec rest} (hm : m.toNat ≤ 99) (hsec : sec.toNat ≤ 59) :
      CommitRule (.updateTimer (m :: sec :: rest)) .applied
  | startMatch {data} : CommitRule (.startMatch data) .applied
  | stopMatch {data} : CommitRule (.stopMatch data) .applied
  | resetMatch {data} : CommitRule (.resetMatch data) .applied
  | ping {data} : CommitRule (.ping data) .applied
  | ledShort {data} (h : data.length < 2) : CommitRule (.setLed data) .noopShort
  | ledApplied {alliance state rest} (ha : alliance = 1 ∨ alliance = 2) (hv : setLedState state ≠ none) :
      CommitRule (.setLed (alliance :: state :: rest)) .applied
  | ledAlliance {alliance state rest} (h1 : alliance ≠ 1) (h2 : alliance ≠ 2) (hv : setLedState state ≠ none) :
      CommitRule (.setLed (alliance :: state :: rest)) .noopAlliance
  | ledState {alliance state rest} (ha : alliance = 1 ∨ alliance = 2) (hv : setLedState state = none) :
      CommitRule (.setLed (alliance :: state :: rest)) .noopSetLedState
  | ledBoth {alliance state rest e} (h1 : alliance ≠ 1) (h2 : alliance ≠ 2) (hv : setLedState state = none)
      (he : e = .noopAlliance ∨ e = .noopSetLedState) : CommitRule (.setLed (alliance :: state :: rest)) e
  | unknown {code data} : CommitRule (.unknown code data) .noopUnknown

/-! ## `exec` follows the rules -/

/-- The data of a command that reads two operands (R120): too short, or both are there. -/
theorem operands_cases (data : List Byte) : data.length < 2 ∨ ∃ first second rest, data = first :: second :: rest := by
  match data with
  | [] => exact .inl (by simp)
  | [_] => exact .inl (by simp)
  | first :: second :: rest => exact .inr ⟨first, second, rest, rfl⟩

theorem ne_cons_cons_of_short {data : List Byte} (h : data.length < 2) (first second : Byte) (rest : List Byte) :
    data ≠ first :: second :: rest := by
  rintro rfl
  simp at h

theorem allianceOf_isSome {alliance : Byte} (h : alliance = 1 ∨ alliance = 2) : ∃ a, allianceOf alliance = some a := by
  obtain rfl | rfl := h
  · exact ⟨.red, allianceOf_one⟩
  · exact ⟨.blue, allianceOf_two⟩

theorem setLedBothEffect_cases (alliance state : Byte) :
    setLedBothEffect alliance state = .noopAlliance ∨ setLedBothEffect alliance state = .noopSetLedState := by
  unfold setLedBothEffect
  split
  · exact .inl rfl
  · exact .inr rfl

/-- What a commit's label is, and that it is all a commit leaves where the label is not `APPLIED`. -/
def CommitLabelled (i : Instr) (s t : State) : Prop :=
  ∃ e, CommitRule i e ∧ t.trace = s.trace ++ [.label (.commit i.code e)] ∧ (e ≠ .applied → t = { s with trace := t.trace })

theorem commitLabelled_noop {i : Instr} {e : CommitEffect} (h : CommitRule i e) (s : State) :
    CommitLabelled i s (s.commitLabel i.code e) := ⟨e, h, rfl, fun _ => rfl⟩

theorem commitLabelled_applied {i : Instr} (h : CommitRule i .applied) {s t : State}
    (ht : t.trace = s.trace ++ [.label (.commit i.code .applied)]) : CommitLabelled i s t :=
  ⟨.applied, h, ht, fun hne => absurd rfl hne⟩

theorem exec_updateScore_labelled {data : List Byte} {s t : State} (h : exec (.updateScore data) s = .next t) :
    CommitLabelled (.updateScore data) s t := by
  obtain hshort | ⟨red, blue, rest, rfl⟩ := operands_cases data
  · cases (exec_updateScore_of_short hshort s).symm.trans h
    exact commitLabelled_noop (.scoreShort hshort) s
  · by_cases hin : red.toNat ≤ 99 ∧ blue.toNat ≤ 99
    · obtain ⟨d, -, rfl⟩ := rebuildDisplay_next ((if_pos (scoresInRange_iff.mpr hin)).symm.trans h)
      exact commitLabelled_applied (.scoreApplied hin.1 hin.2) rfl
    · have hout : 99 < red.toNat ∨ 99 < blue.toNat := by omega
      cases (exec_updateScore_of_gt hout rest s).symm.trans h
      exact commitLabelled_noop (.scoreRange hout) s

theorem exec_updateTimer_labelled {data : List Byte} {s t : State} (h : exec (.updateTimer data) s = .next t) :
    CommitLabelled (.updateTimer data) s t := by
  obtain hshort | ⟨m, sec, rest, rfl⟩ := operands_cases data
  · cases (exec_updateTimer_of_short hshort s).symm.trans h
    exact commitLabelled_noop (.timerShort hshort) s
  · by_cases hin : m.toNat ≤ 99 ∧ sec.toNat ≤ 59
    · obtain ⟨d, -, rfl⟩ := rebuildDisplay_next ((if_pos (timerInRange_iff.mpr hin)).symm.trans h)
      exact commitLabelled_applied (.timerApplied hin.1 hin.2) rfl
    · have hout : 99 < m.toNat ∨ 59 < sec.toNat := by omega
      cases (exec_updateTimer_of_gt hout rest s).symm.trans h
      exact commitLabelled_noop (.timerRange hout) s

theorem exec_setLed_labelled {data : List Byte} {s t : State} (h : exec (.setLed data) s = .next t) :
    CommitLabelled (.setLed data) s t := by
  obtain hshort | ⟨alliance, state, rest, rfl⟩ := operands_cases data
  · cases (exec_setLed_of_short hshort s).symm.trans h
    exact commitLabelled_noop (.ledShort hshort) s
  · simp only [exec, execSetLed, twoOperands] at h
    by_cases hacted : alliance = 1 ∨ alliance = 2
    · obtain ⟨a, ha⟩ := allianceOf_isSome hacted
      cases hv : setLedState state with
      | some v =>
        simp only [ha, hv] at h
        cases h
        exact commitLabelled_applied (.ledApplied hacted (by simp [hv])) (by cases a <;> rfl)
      | none =>
        simp only [ha, hv] at h
        cases h
        exact commitLabelled_noop (.ledState hacted hv) s
    · obtain ⟨h1, h2⟩ := not_or.mp hacted
      cases hv : setLedState state with
      | some v =>
        simp only [allianceOf_of_ne h1 h2, hv] at h
        cases h
        exact commitLabelled_noop (.ledAlliance h1 h2 (by simp [hv])) s
      | none =>
        simp only [allianceOf_of_ne h1 h2, hv] at h
        cases h
        exact commitLabelled_noop (.ledBoth h1 h2 hv (setLedBothEffect_cases alliance state)) s

theorem exec_labelled {i : Instr} {s t : State} (h : exec i s = .next t) : CommitLabelled i s t := by
  cases i with
  | updateScore data => exact exec_updateScore_labelled h
  | updateTimer data => exact exec_updateTimer_labelled h
  | startMatch data => cases h; exact commitLabelled_applied .startMatch rfl
  | stopMatch data => cases h; exact commitLabelled_applied .stopMatch rfl
  | resetMatch data =>
    cases (execResetMatch_eq data s).symm.trans h
    exact commitLabelled_applied .resetMatch rfl
  | ping data => cases h; exact commitLabelled_applied .ping rfl
  | setLed data => exact exec_setLed_labelled h
  | unknown code data => cases h; exact commitLabelled_noop .unknown s

/-! ## When each effect is named -/

section
variable {i : Instr} {e : CommitEffect} (h : CommitRule i e)
include h

theorem CommitRule.noopUnknown_iff : e = .noopUnknown ↔ ∃ c d, i = .unknown c d := by
  cases h with
  | ledBoth h1 h2 hv he => obtain rfl | rfl := he <;> simp
  | _ => simp

theorem CommitRule.noopShort_iff :
    e = .noopShort ↔
      i.data.length < 2 ∧ ((∃ d, i = .updateScore d) ∨ (∃ d, i = .updateTimer d) ∨ ∃ d, i = .setLed d) := by
  cases h with
  | ledBoth h1 h2 hv he => obtain rfl | rfl := he <;> simp [Instr.data]
  | scoreShort h | timerShort h | ledShort h => simp [Instr.data, h]
  | _ => simp [Instr.data]

theorem CommitRule.noopRange_iff :
    e = .noopRange ↔
      (∃ red blue rest, i = .updateScore (red :: blue :: rest) ∧ (99 < red.toNat ∨ 99 < blue.toNat)) ∨
      (∃ m sec rest, i = .updateTimer (m :: sec :: rest) ∧ (99 < m.toNat ∨ 59 < sec.toNat)) := by
  cases h with
  | ledBoth h1 h2 hv he => obtain rfl | rfl := he <;> simp
  | scoreShort h | timerShort h => simp [ne_cons_cons_of_short h]
  | scoreRange h | timerRange h => simp [h]
  | scoreApplied h1 h2 | timerApplied h1 h2 => simp [h1, h2]
  | _ => simp

theorem CommitRule.noopAlliance_imp (he : e = .noopAlliance) :
    ∃ alliance state rest, i = .setLed (alliance :: state :: rest) ∧ alliance ≠ 1 ∧ alliance ≠ 2 := by
  subst he
  cases h with
  | ledAlliance h1 h2 hv => exact ⟨_, _, _, rfl, h1, h2⟩
  | ledBoth h1 h2 hv he => exact ⟨_, _, _, rfl, h1, h2⟩

theorem CommitRule.noopSetLedState_imp (he : e = .noopSetLedState) :
    ∃ alliance state rest, i = .setLed (alliance :: state :: rest) ∧ setLedState state = none := by
  subst he
  cases h with
  | ledState ha hv => exact ⟨_, _, _, rfl, hv⟩
  | ledBoth h1 h2 hv he => exact ⟨_, _, _, rfl, hv⟩

/-- What the label of a SET_LED with both bytes says, by which of them are acted on. -/
theorem CommitRule.setLed_imp (alliance state : Byte) (rest : List Byte) (hi : i = .setLed (alliance :: state :: rest)) :
    (alliance ≠ 1 → alliance ≠ 2 → setLedState state ≠ none → e = .noopAlliance) ∧
    (alliance = 1 ∨ alliance = 2 → setLedState state = none → e = .noopSetLedState) ∧
    (alliance ≠ 1 → alliance ≠ 2 → setLedState state = none → e = .noopAlliance ∨ e = .noopSetLedState) := by
  subst hi
  cases h with
  | ledShort h => simp at h
  | ledApplied ha hv | ledAlliance h1 h2 hv | ledState ha hv | ledBoth h1 h2 hv he => tauto

theorem CommitRule.applied_iff :
    e = .applied ↔
      (∃ red blue rest, i = .updateScore (red :: blue :: rest) ∧ red.toNat ≤ 99 ∧ blue.toNat ≤ 99) ∨
      (∃ m sec rest, i = .updateTimer (m :: sec :: rest) ∧ m.toNat ≤ 99 ∧ sec.toNat ≤ 59) ∨
      (∃ d, i = .startMatch d ∨ i = .stopMatch d ∨ i = .resetMatch d ∨ i = .ping d) ∨
      (∃ alliance state rest, i = .setLed (alliance :: state :: rest) ∧ (alliance = 1 ∨ alliance = 2) ∧
        setLedState state ≠ none) := by
  cases h with
  | scoreShort h | timerShort h | ledShort h => simp [ne_cons_cons_of_short h]
  | scoreRange h | timerRange h => simpa using by omega
  | scoreApplied h1 h2 | timerApplied h1 h2 => simp [h1, h2]
  | ledApplied ha hv => simpa [hv] using ha
  | ledAlliance h1 h2 hv => simpa using fun ha => absurd ha (not_or.mpr ⟨h1, h2⟩)
  | ledState ha hv => simp [hv]
  | ledBoth h1 h2 hv he => obtain rfl | rfl := he <;> simp [hv]
  | _ => simp

end

end Sys2Proof.Machine
end

section
/-! PROOF. Labels, phases and idempotence of the commands, and the builder's table (spec 41_commands.md, 42_display.md R142). -/

namespace Sys2Proof.Machine

/-- Settles O8. -/
theorem unknownCodeCommitsWithoutEffect : Obligations.UnknownCodeCommitsWithoutEffect := fun _ data _ hcode =>
  ⟨decodeCommand_unknown hcode data, rfl⟩

/-- Settles O9: every clause is read off the rule that the commit's label follows. -/
theorem commitLabelNamesTheEffect : Obligations.CommitLabelNamesTheEffect := by
  intro i s t h
  obtain ⟨e, rule, htrace, hnoop⟩ := exec_labelled h
  exact ⟨e, htrace, rule.noopUnknown_iff, rule.noopShort_iff, rule.noopRange_iff, rule.noopAlliance_imp,
    rule.noopSetLedState_imp, rule.setLed_imp, rule.applied_iff, hnoop⟩

/-- Settles O10: three commands write the phase, and the writes of the others are not to it. -/
theorem phaseFollowsTheTable : Obligations.PhaseFollowsTheTable := by
  intro i s t h
  cases i with
  | updateScore data => obtain ⟨e, rfl⟩ | ⟨_, _, _, _, _, _, _, rfl⟩ := execUpdateScore_next h <;> rfl
  | updateTimer data => obtain ⟨e, rfl⟩ | ⟨_, _, _, _, _, _, _, rfl⟩ := execUpdateTimer_next h <;> rfl
  | startMatch data => cases h; rfl
  | stopMatch data => cases h; rfl
  | resetMatch data => cases (execResetMatch_eq data s).symm.trans h; rfl
  | ping data => cases h; rfl
  | setLed data =>
    obtain ⟨e, rfl⟩ | ⟨_, _, a, _, _, _, _, rfl⟩ := execSetLed_next h
    · rfl
    · cases a <;> rfl
  | unknown code data => cases h; rfl

/-- An applied update writes the buffer that its own second run builds. -/
theorem exec_updateScore_again {data : List Byte} {s t : State} (h : exec (.updateScore data) s = .next t) :
    ∃ tr, exec (.updateScore data) t = .next { t with trace := tr } := by
  obtain ⟨e, rule, -, hnoop⟩ := exec_labelled h
  cases rule with
  | scoreShort hshort => exact ⟨_, exec_updateScore_of_short hshort t⟩
  | scoreRange hout => exact ⟨_, exec_updateScore_of_gt hout _ t⟩
  | scoreApplied hred hblue =>
    obtain ⟨d, hd, rfl⟩ := rebuildDisplay_next ((if_pos (scoresInRange_iff.mpr ⟨hred, hblue⟩)).symm.trans h)
    exact ⟨_, exec_updateScore_of_le hred hblue _ hd⟩

theorem exec_updateTimer_again {data : List Byte} {s t : State} (h : exec (.updateTimer data) s = .next t) :
    ∃ tr, exec (.updateTimer data) t = .next { t with trace := tr } := by
  obtain ⟨e, rule, -, hnoop⟩ := exec_labelled h
  cases rule with
  | timerShort hshort => exact ⟨_, exec_updateTimer_of_short hshort t⟩
  | timerRange hout => exact ⟨_, exec_updateTimer_of_gt hout _ t⟩
  | timerApplied hm hsec =>
    obtain ⟨d, hd, rfl⟩ := rebuildDisplay_next ((if_pos (timerInRange_iff.mpr ⟨hm, hsec⟩)).symm.trans h)
    exact ⟨_, exec_updateTimer_of_le hm hsec _ hd⟩

theorem exec_setLed_again {data : List Byte} {s t : State} (h : exec (.setLed data) s = .next t) :
    ∃ tr, exec (.setLed data) t = .next { t with trace := tr } := by
  obtain hshort | ⟨alliance, state, rest, rfl⟩ := operands_cases data
  · exact ⟨_, exec_setLed_of_short hshort t⟩
  · cases ha : allianceOf alliance with
    | none => obtain ⟨e, he⟩ := exec_setLed_of_none (.inl ha) rest t; exact ⟨_, he⟩
    | some a =>
      cases hv : setLedState state with
      | none => obtain ⟨e, he⟩ := exec_setLed_of_none (.inr hv) rest t; exact ⟨_, he⟩
      | some v =>
        cases (exec_setLed_of_value ha hv rest s).symm.trans h
        cases a with
        | red => exact ⟨_, exec_setLed_of_value ha hv rest _⟩
        | blue => exact ⟨_, exec_setLed_of_value ha hv rest _⟩

/-- Settles O12: the values a command writes do not depend on the registers it writes. -/
theorem repeatedCommandChangesNothingMore : Obligations.RepeatedCommandChangesNothingMore := by
  intro i s t hping h
  cases i with
  | updateScore data => exact exec_updateScore_again h
  | updateTimer data => exact exec_updateTimer_again h
  | startMatch data => cases h; exact ⟨_, rfl⟩
  | stopMatch data => cases h; exact ⟨_, rfl⟩
  | resetMatch data =>
    cases (execResetMatch_eq data s).symm.trans h
    exact ⟨_, execResetMatch_eq data _⟩
  | ping data => exact absurd rfl (hping data)
  | setLed data => exact exec_setLed_again h
  | unknown code data => cases h; exact ⟨_, rfl⟩

end Sys2Proof.Machine
end

section
/-! PROOF. The builder over its table, its round trip, and its faults (spec 42_display.md R140 to R143). -/

namespace Sys2Proof.Machine

/-- R142: the builder has an answer exactly on values 0..99. -/
theorem build_eq_none {m s r : Byte} (h : 99 < m.toNat ∨ 99 < s.toNat ∨ 99 < r.toNat) : build m s r = none := by
  cases hd : build m s r with
  | none => rfl
  | some d => obtain ⟨hm, hs, hr, -⟩ := buildWith_eq_some segRom hd; omega

theorem rebuildDisplay_of_none {s : State} (h : build s.minutes s.seconds s.redScore = none) :
    s.rebuildDisplay = .fault .buildOutOfRange := by
  simp only [State.rebuildDisplay, h]

/-- Settles O13: the builder's answer digit by digit, and the fault where it has none. -/
theorem buildIsTheDigitTableOrFaults : Obligations.BuildIsTheDigitTableOrFaults := by
  refine ⟨rfl, ?table, fun m s r => build_eq_none, ?scoreFault, ?timerFault⟩
  case table =>
    intro m s r hm hs hr
    obtain ⟨d, hd⟩ := build_isSome hm hs hr
    refine ⟨d, hd, ?_⟩
    obtain ⟨-, -, -, rfl⟩ := buildWith_eq_some segRom hd
    simp [tens, units, Vector.get]
  case scoreFault =>
    intro red blue rest s hout hred hblue
    refine (if_pos (scoresInRange_iff.mpr ⟨hred, hblue⟩)).trans (rebuildDisplay_of_none (build_eq_none ?_))
    exact hout.elim .inl fun h => .inr (.inl h)
  case timerFault =>
    intro m sec rest s hout hm hsec
    exact (if_pos (timerInRange_iff.mpr ⟨hm, hsec⟩)).trans (rebuildDisplay_of_none (build_eq_none (.inr (.inr hout))))

/-- Over a table without repetition a pattern stands for the digit it is the pattern of (R143). -/
theorem decodeDigit_get {rom : Vector Byte 10} (hrom : rom.toList.Nodup) (i : Fin 10) :
    decodeDigit rom (rom.get i) = some i.val := by
  have hlen : i.val < rom.toList.length := by simp
  have hget : rom.get i = rom.toList[i.val] := by simp [Vector.get]
  rw [decodeDigit, List.idxOf?, List.findIdx?_eq_some_iff_getElem, hget]
  refine ⟨hlen, beq_self_eq_true _, fun j hj => ?_⟩
  rw [beq_iff_eq, hrom.getElem_inj_iff]
  exact hj.ne

theorem decodeValue_digits {rom : Vector Byte 10} (hrom : rom.toList.Nodup) {v : Byte} (hv : v.toNat ≤ 99) :
    decodeValue rom (rom.get ⟨tens v, tens_lt_ten hv⟩) (rom.get ⟨units v, units_lt_ten v⟩) = some v.toNat := by
  simp only [decodeValue, decodeDigit_get hrom, tens_units]

/-- Settles O14: each pair of entries holds the two digits of its value. -/
theorem builtBufferDecodesToItsValues : Obligations.BuiltBufferDecodesToItsValues := by
  intro rom m s r d hrom hd
  obtain ⟨hm, hs, hr, rfl⟩ := buildWith_eq_some rom hd
  exact ⟨decodeValue_digits hrom hm, decodeValue_digits hrom hs, decodeValue_digits hrom hr⟩

theorem segRom_bit7 : ∀ p ∈ segRom.toList, p.getLsbD 7 = false := by decide

theorem get_build_mem {rom : Vector Byte 10} {m s r : Byte} {d : Vector Byte 6} (hd : buildWith rom m s r = some d)
    (k : Fin 6) : d.get k ∈ rom.toList := by
  obtain ⟨hm, hs, hr, rfl⟩ := buildWith_eq_some rom hd
  fin_cases k <;> simp [Vector.get]

/-- Settles O15: the invariant makes `DBUF` a built buffer, whose entries come from the table. -/
theorem bufferHoldsOnlyPatterns : Obligations.BufferHoldsOnlyPatterns := by
  intro s hinv k
  have hmem : s.dbuf.get k ∈ segRom.toList := get_build_mem hinv.buffer k
  exact ⟨hmem, segRom_bit7 _ hmem⟩

end Sys2Proof.Machine
end

section
/-! PROOF. Everything one step can do, said once: which agent moved and what it wrote (spec 20_memory.md R50 to R54,
40_framer.md R100, 70_reset_and_hazards.md R180). -/

namespace Sys2Proof.Machine

/-! ## Using up a move leaves the outputs and `TXQ` in place (log 1) -/

@[simp] theorem State.afterMove_digSel (s : State) : s.afterMove.digSel = s.digSel := by
  obtain ⟨a, n, h⟩ := afterMove_eq s; rw [h]

@[simp] theorem State.afterMove_indRedOut (s : State) : s.afterMove.indRedOut = s.indRedOut := by
  obtain ⟨a, n, h⟩ := afterMove_eq s; rw [h]

@[simp] theorem State.afterMove_indBlueOut (s : State) : s.afterMove.indBlueOut = s.indBlueOut := by
  obtain ⟨a, n, h⟩ := afterMove_eq s; rw [h]

@[simp] theorem State.afterMove_txq (s : State) : s.afterMove.txq = s.txq := by
  obtain ⟨a, n, h⟩ := afterMove_eq s; rw [h]

/-! ## A byte step commits or writes framer registers only -/

/-- `t` is `s` but for the framer's registers (R21 to R27) and added labels. -/
def FramerWrite (s t : State) : Prop :=
  ∃ labels : List Label, t = { s with
    fstate := t.fstate, cmd := t.cmd, len := t.len, data := t.data, idx := t.idx, chk := t.chk, indDue := t.indDue,
    trace := s.trace ++ labels.map .label }

theorem FramerWrite.dropPacket (s : State) (l : Label) : FramerWrite s (s.dropPacket l) := ⟨[l], rfl⟩

/-- A write of framer registers alone, which adds no label. -/
theorem FramerWrite.of_no_label {s t : State} (h : t = { s with
    fstate := t.fstate, cmd := t.cmd, len := t.len, data := t.data, idx := t.idx, chk := t.chk, indDue := t.indDue }) :
    FramerWrite s t :=
  ⟨[], by simpa using h⟩

theorem framerWrite_waitStartStep (b : Byte) (s : State) : FramerWrite s (waitStartStep b s) := by
  unfold waitStartStep
  split
  · exact .of_no_label rfl
  · exact .dropPacket s _

theorem framerWrite_readLenStep (b : Byte) (s : State) : FramerWrite s (readLenStep b s) := by
  unfold readLenStep
  split
  · exact ⟨[.dropLength], rfl⟩
  · split
    · exact .of_no_label rfl
    · exact .of_no_label rfl

theorem framerWrite_timeoutStep (s : State) : FramerWrite s (timeoutStep s) := by
  unfold timeoutStep
  split
  · exact .of_no_label rfl
  · exact .dropPacket s _

/-- Outside the commit of R106 a byte step writes framer registers only. -/
theorem byteStep_cases {b : Byte} {s t : State} (h : byteStep b s = .next t) :
    FramerWrite s t ∨
    (s.fstate = .readEnd ∧ b = Config.endMarker ∧ s.len.toNat ≤ Config.maxLen ∧ s.chk = xorFold s.cmd s.len s.payload ∧
      exec (decodeCommand s.cmd s.payload) s.endInvocation = .next t) := by
  cases hf : s.fstate with
  | waitStart => cases (byteStep_waitStart hf b).symm.trans h; exact .inl (framerWrite_waitStartStep b s)
  | readCmd => cases (byteStep_readCmd hf b).symm.trans h; exact .inl (.of_no_label rfl)
  | readLen => cases (byteStep_readLen hf b).symm.trans h; exact .inl (framerWrite_readLenStep b s)
  | readData =>
    obtain ⟨-, -, rfl⟩ := readDataStep_next ((byteStep_readData hf b).symm.trans h)
    exact .inl (.of_no_label rfl)
  | readChk => cases (byteStep_readChk hf b).symm.trans h; exact .inl (.of_no_label rfl)
  | readEnd =>
    obtain ⟨-, rfl⟩ | ⟨-, -, -, rfl⟩ | ⟨hb, hlen, hchk, hx⟩ := readEndStep_next ((byteStep_readEnd hf b).symm.trans h)
    · exact .inl (.dropPacket s _)
    · exact .inl (.dropPacket s _)
    · exact .inr ⟨rfl, hb, hlen, hchk, hx⟩

/-! ## The step -/

/-- What a step from `s` to `t` did, by the agent that moved. -/
inductive StepEffect (s t : State) : Prop where
  | tick (hmove : s.nextMove = .tick) (ht : t = Machine.tick s.afterMove)
  | receive (e : RxEvent) (hmove : s.nextMove = .rxTimeout ∨ ∃ b, s.nextMove = .rxByte b) (ht : t = s.afterMove.appendRx e)
  | drain (b : Byte) (rest : List Byte) (hmove : s.nextMove = .txDrain) (htx : s.txq = b :: rest)
      (ht : t = (s.afterMove.setTxq rest).record (.sent b))
  | reset (hmove : s.nextMove = .reset) (ht : t = resetEvent s.afterMove)
  | wait (hmove : s.nextMove = .foreground → s.rxq = [] ∧ ¬(s.fstate = .waitStart ∧ s.indDue = true)) (ht : t = s.afterMove)
  | update (hmove : s.nextMove = .foreground) (hf : s.fstate = .waitStart) (hdue : s.indDue = true)
      (ht : t = indicatorUpdate s.afterMove)
  | framer (e : RxEvent) (rest : List RxEvent) (hmove : s.nextMove = .foreground) (hq : s.rxq = e :: rest)
      (ht : FramerWrite (s.afterMove.setRxq rest) t)
  | commit (i : Instr) (e : RxEvent) (rest : List RxEvent) (hcommit : s.committing = some i) (hq : s.rxq = e :: rest)
      (ht : exec i (s.afterMove.setRxq rest).endInvocation = .next t)

theorem stepEffect_of_foreground {s t : State} (hmove : s.nextMove = .foreground) (h : step s = .next t) :
    StepEffect s t := by
  rw [step_of_nextMove hmove, runMove] at h
  obtain ⟨hf, hdue, e⟩ | ⟨hdue, ⟨hq, e⟩ | ⟨rest, hq, e⟩ | ⟨b, rest, hq, e⟩⟩ := foreground_cases s.afterMove <;>
    rw [e] at h <;> simp only [State.afterMove_fstate, State.afterMove_indDue, State.afterMove_rxq] at *
  · cases h; exact .update hmove hf hdue rfl
  · cases h; exact .wait (fun _ => ⟨hq, hdue⟩) rfl
  · cases h; exact .framer _ rest hmove hq (framerWrite_timeoutStep _)
  · obtain hwrite | ⟨hf, rfl, hlen, hchk, hx⟩ := byteStep_cases h
    · exact .framer _ rest hmove hq hwrite
    · refine .commit (decodeCommand s.cmd s.payload) _ rest ?_ hq ?_
      · simp only [State.setRxq_fstate, State.setRxq_len, State.setRxq_chk, State.setRxq_cmd, State.afterMove_fstate,
          State.afterMove_len, State.afterMove_chk, State.afterMove_cmd, payload_afterMove_setRxq] at hf hlen hchk
        exact if_pos ⟨hmove, hf, by rw [hq]; rfl, hlen, hchk⟩
      · rw [State.setRxq_cmd, State.afterMove_cmd, payload_afterMove_setRxq] at hx
        exact hx

theorem stepEffect {s t : State} (h : step s = .next t) : StepEffect s t := by
  cases hmove : s.nextMove with
  | foreground => exact stepEffect_of_foreground hmove h
  | tick => cases (step_of_tick hmove).symm.trans h; exact .tick hmove rfl
  | rxByte b => cases (step_of_nextMove hmove).symm.trans h; exact .receive _ (.inr ⟨b, hmove⟩) rfl
  | rxTimeout =>
    cases (step_of_nextMove hmove).symm.trans h
    unfold rxTimeoutEvent
    split
    · exact .wait (by simp [hmove]) rfl
    · exact .receive _ (.inl hmove) rfl
  | txDrain =>
    cases (step_of_nextMove hmove).symm.trans h
    unfold txDrainStep
    rw [State.afterMove_txq]
    cases htx : s.txq with
    | nil => exact .wait (by simp [hmove]) rfl
    | cons b rest => exact .drain b rest hmove htx rfl
  | reset => cases (step_of_nextMove hmove).symm.trans h; exact .reset hmove rfl

end Sys2Proof.Machine
end

section
/-! PROOF. Who writes each register (spec 10_state.md R43, 30_encoding.md R80, 40_framer.md R108). -/

namespace Sys2Proof.Machine

/-! ## What a commit writes -/

/-- R43: the match-state registers and `DBUF`. -/
def State.matchState (s : State) : Byte × Byte × Byte × Byte × Phase × Bool × Bool × Vector Byte 6 :=
  (s.minutes, s.seconds, s.redScore, s.blueScore, s.phase, s.redFlag, s.blueFlag, s.dbuf)

/-- The commands that may write each part of the match state, and `DBUF` (R43). -/
structure MatchWriters (i : Instr) (s t : State) : Prop where
  timer : t.minutes ≠ s.minutes ∨ t.seconds ≠ s.seconds → ∃ d, i = .updateTimer d ∨ i = .resetMatch d
  scores : t.redScore ≠ s.redScore ∨ t.blueScore ≠ s.blueScore → ∃ d, i = .updateScore d ∨ i = .resetMatch d
  phase : t.phase ≠ s.phase → ∃ d, i = .startMatch d ∨ i = .stopMatch d ∨ i = .resetMatch d
  flags : t.redFlag ≠ s.redFlag ∨ t.blueFlag ≠ s.blueFlag →
    ∃ d, i = .startMatch d ∨ i = .stopMatch d ∨ i = .resetMatch d ∨ i = .setLed d
  dbuf : t.dbuf ≠ s.dbuf → ∃ d, i = .updateScore d ∨ i = .updateTimer d ∨ i = .resetMatch d

theorem matchWriters_of_eq {s t : State} (h : t.matchState = s.matchState) (i : Instr) : MatchWriters i s t := by
  simp only [State.matchState, Prod.mk.injEq] at h
  obtain ⟨hm, hsec, hred, hblue, hphase, hrf, hbf, hdbuf⟩ := h
  constructor <;> simp [hm, hsec, hred, hblue, hphase, hrf, hbf, hdbuf]

theorem MatchWriters.of_matchState_eq {i : Instr} {s s' t : State} (w : MatchWriters i s' t)
    (h : s'.matchState = s.matchState) : MatchWriters i s t := by
  simp only [State.matchState, Prod.mk.injEq] at h
  obtain ⟨hm, hsec, hred, hblue, hphase, hrf, hbf, hdbuf⟩ := h
  exact ⟨hm ▸ hsec ▸ w.timer, hred ▸ hblue ▸ w.scores, hphase ▸ w.phase, hrf ▸ hbf ▸ w.flags, hdbuf ▸ w.dbuf⟩

theorem exec_matchWriters {i : Instr} {s t : State} (h : exec i s = .next t) : MatchWriters i s t := by
  cases i with
  | updateScore data =>
    obtain ⟨e, rfl⟩ | ⟨_, _, _, _, _, _, _, rfl⟩ := execUpdateScore_next h
    · exact matchWriters_of_eq (by rfl) _
    · constructor <;> simp
  | updateTimer data =>
    obtain ⟨e, rfl⟩ | ⟨_, _, _, _, _, _, _, rfl⟩ := execUpdateTimer_next h
    · exact matchWriters_of_eq (by rfl) _
    · constructor <;> simp
  | startMatch data => cases h; constructor <;> simp [commitLabel_eq, enterPhase_eq]
  | stopMatch data => cases h; constructor <;> simp [commitLabel_eq, enterPhase_eq]
  | resetMatch data => constructor <;> simp
  | ping data => cases h; exact matchWriters_of_eq (by rfl) _
  | setLed data =>
    obtain ⟨e, rfl⟩ | ⟨_, _, a, _, _, _, _, rfl⟩ := execSetLed_next h
    · exact matchWriters_of_eq (by rfl) _
    · cases a <;> constructor <;> simp [commitLabel_eq, setAllianceFlag_red, setAllianceFlag_blue]
  | unknown code data => cases h; exact matchWriters_of_eq (by rfl) _

/-- Only PING appends to `TXQ` (R80). -/
theorem exec_txq {i : Instr} {s t : State} (h : exec i s = .next t) :
    t.txq = s.txq ∨ (∃ d, i = .ping d) ∧ t.txq = s.txq ++ pingReply := by
  cases i with
  | updateScore data => obtain ⟨e, rfl⟩ | ⟨_, _, _, _, _, _, _, rfl⟩ := execUpdateScore_next h <;> exact .inl rfl
  | updateTimer data => obtain ⟨e, rfl⟩ | ⟨_, _, _, _, _, _, _, rfl⟩ := execUpdateTimer_next h <;> exact .inl rfl
  | startMatch data => cases h; exact .inl rfl
  | stopMatch data => cases h; exact .inl rfl
  | resetMatch data => cases (execResetMatch_eq data s).symm.trans h; exact .inl rfl
  | ping data => cases h; exact .inr ⟨⟨data, rfl⟩, rfl⟩
  | setLed data =>
    obtain ⟨e, rfl⟩ | ⟨_, _, a, _, _, _, _, rfl⟩ := execSetLed_next h
    · exact .inl rfl
    · cases a <;> exact .inl rfl
  | unknown code data => cases h; exact .inl rfl

/-! ## What a step leaves in place -/

theorem afterMove_matchState (s : State) : s.afterMove.matchState = s.matchState := by
  obtain ⟨a, n, h⟩ := afterMove_eq s; rw [h]; rfl

/-- Outside a commit and a reset no step writes the match state or `DBUF`. -/
theorem StepEffect.matchState {s t : State} (h : StepEffect s t) :
    s.nextMove = .reset ∨ t.matchState = s.matchState ∨ ∃ i, s.committing = some i ∧ MatchWriters i s t := by
  cases h with
  | tick hmove ht => rw [ht, tick_eq]; exact .inr (.inl (afterMove_matchState s))
  | receive e hmove ht => rw [ht]; exact .inr (.inl (afterMove_matchState s))
  | drain b rest hmove htx ht => rw [ht]; exact .inr (.inl (afterMove_matchState s))
  | reset hmove ht => exact .inl hmove
  | wait hmove ht => rw [ht]; exact .inr (.inl (afterMove_matchState s))
  | update hmove hf hdue ht => rw [ht]; exact .inr (.inl (afterMove_matchState s))
  | framer e rest hmove hq ht =>
    obtain ⟨labels, ht⟩ := ht
    rw [ht]
    exact .inr (.inl (afterMove_matchState s))
  | commit i e rest hcommit hq ht =>
    refine .inr (.inr ⟨i, hcommit, ?_⟩)
    exact (exec_matchWriters ht).of_matchState_eq (afterMove_matchState s)

/-- Settles O50: the writers of R43, command by command. -/
theorem matchStateChangesOnlyByItsCommands : Obligations.MatchStateChangesOnlyByItsCommands := by
  intro s t h
  obtain hreset | heq | ⟨i, hcommit, w⟩ := (stepEffect h).matchState
  · exact .inl hreset
  · simp only [State.matchState, Prod.mk.injEq] at heq
    obtain ⟨hm, hsec, hred, hblue, hphase, hrf, hbf, hdbuf⟩ := heq
    exact .inr (by simp [hm, hsec, hred, hblue, hphase, hrf, hbf, hdbuf])
  · simp only [hcommit, Option.some.injEq]
    exact .inr ⟨w.timer, w.scores, w.phase, w.flags, w.dbuf⟩

/-- Settles O51. -/
theorem outputsChangeOnlyByTheirOwners : Obligations.OutputsChangeOnlyByTheirOwners := by
  intro s t h
  cases stepEffect h with
  | tick hmove ht => rw [ht, tick_eq]; exact .inr ⟨fun _ => hmove, by simp⟩
  | receive e hmove ht => rw [ht]; exact .inr (by simp [appendRx_eq])
  | drain b rest hmove htx ht => rw [ht]; exact .inr (by simp)
  | reset hmove ht => exact .inl hmove
  | wait hmove ht => rw [ht]; exact .inr (by simp)
  | update hmove hf hdue ht => rw [ht]; exact .inr ⟨by simp [indicatorUpdate_eq], fun _ => ⟨hmove, hf, hdue⟩⟩
  | framer e rest hmove hq ht =>
    obtain ⟨labels, ht⟩ := ht
    rw [ht]
    exact .inr (by simp)
  | commit i e rest hcommit hq ht =>
    rw [exec_next_writes ht]
    exact .inr (by simp [endInvocation_eq])

/-- Settles O52. -/
theorem onlyPingTransmits : Obligations.OnlyPingTransmits := by
  intro s t h
  cases stepEffect h with
  | tick hmove ht => rw [ht, tick_eq]; exact .inl s.afterMove_txq
  | receive e hmove ht => rw [ht]; exact .inl s.afterMove_txq
  | drain b rest hmove htx ht => rw [ht]; exact .inr (.inr (.inl ⟨hmove, b, htx⟩))
  | reset hmove ht => rw [ht]; exact .inr (.inr (.inr ⟨hmove, rfl⟩))
  | wait hmove ht => rw [ht]; exact .inl s.afterMove_txq
  | update hmove hf hdue ht => rw [ht]; exact .inl s.afterMove_txq
  | framer e rest hmove hq ht =>
    obtain ⟨labels, ht⟩ := ht
    rw [ht]
    exact .inl s.afterMove_txq
  | commit i e rest hcommit hq ht =>
    have htx : (s.afterMove.setRxq rest).endInvocation.txq = s.txq := s.afterMove_txq
    obtain hsame | ⟨⟨d, rfl⟩, hping⟩ := exec_txq ht
    · exact .inl (hsame.trans htx)
    · exact .inr (.inl ⟨d, hcommit, by rw [hping, htx]; rfl⟩)

/-- A step of F that does not wait and is no indicator update takes the head of `RXQ`. -/
theorem StepEffect.foreground_rxq {s t : State} (h : StepEffect s t) (hmove : s.nextMove = .foreground) :
    (t.rxq = s.rxq ∧ (s.rxq = [] ∧ ¬(s.fstate = .waitStart ∧ s.indDue = true) ∨
      s.fstate = .waitStart ∧ s.indDue = true ∧ t.indDue = false)) ∨ ∃ e, s.rxq = e :: t.rxq := by
  cases h with
  | tick hm ht => simp [hmove] at hm
  | receive e hm ht => simp [hmove] at hm
  | drain b rest hm htx ht => simp [hmove] at hm
  | reset hm ht => simp [hmove] at hm
  | wait hm ht => rw [ht]; exact .inl ⟨s.afterMove_rxq, .inl (hm hmove)⟩
  | update hm hf hdue ht => rw [ht]; exact .inl ⟨s.afterMove_rxq, .inr ⟨hf, hdue, rfl⟩⟩
  | framer e rest hm hq ht =>
    obtain ⟨labels, ht⟩ := ht
    rw [ht]
    exact .inr ⟨e, hq⟩
  | commit i e rest hcommit hq ht => rw [exec_next_writes ht]; exact .inr ⟨e, hq⟩

/-- Settles O35. -/
theorem foregroundTakesAtMostTheHead : Obligations.ForegroundTakesAtMostTheHead := by
  intro s t hmove h
  exact ((stepEffect h).foreground_rxq hmove).imp_left And.left

end Sys2Proof.Machine
end

section
/-! PROOF. Single steps of F with their labels and faults, of the environment, and the reset (spec 40_framer.md, 20_memory.md
R52 and R53, 70_reset_and_hazards.md R180 and R181). -/

namespace Sys2Proof.Machine

theorem readDataStep_of_not_lt {s : State} (hi : ¬s.idx.val < 10) (b : Byte) :
    readDataStep b s = .fault .dataIndexOutOfRange := if_neg hi

theorem readEndStep_of_len_gt {s : State} (hlen : 10 < s.len.toNat) :
    readEndStep 0x55 s = .fault .lengthOutOfRange := by
  rw [readEndStep, if_neg (by decide)]
  exact if_pos hlen

/-- Settles O29: the guard of each of the two byte steps. -/
theorem indexOutsideDataFaults : Obligations.IndexOutsideDataFaults := by
  intro s b rest hmove hq
  refine ⟨?index, ?length⟩
  case index =>
    intro hf hidx
    rw [step_of_byte hmove (not_update_due hf) hq, byteStep_readData (by simpa using hf)]
    exact readDataStep_of_not_lt (by simp [hidx]) b
  case length =>
    rintro hf rfl hlen
    rw [step_of_byte hmove (not_update_due hf) hq, byteStep_readEnd (by simpa using hf)]
    exact readEndStep_of_len_gt (by simpa using hlen)

/-- Settles O31: the branch that the failed check selects is a drop with that label. -/
theorem dropLabelNamesTheFailedCheck : Obligations.DropLabelNamesTheFailedCheck := by
  intro s t rest hmove hdue h
  refine ⟨fun b hq => ?byte, fun hq => ?timeout⟩
  case byte =>
    rw [step_of_byte hmove hdue hq] at h
    have hpayload := payload_afterMove_setRxq s rest
    have htrace : (s.afterMove.setRxq rest).trace = s.trace := s.afterMove_trace
    refine ⟨fun hf hb => ?start, fun hf hb => ?length, fun hf hb => ?marker, fun hf hb hchk => ?checksum⟩
    case start =>
      rw [byteStep_waitStart (by simpa using hf), waitStartStep_of_ne hb] at h
      cases h; rw [dropPacket_eq, htrace]
    case length =>
      rw [byteStep_readLen (by simpa using hf), readLenStep_of_gt hb] at h
      cases h; rw [dropPacket_eq, State.setLen_trace, htrace]
    case marker =>
      rw [byteStep_readEnd (by simpa using hf), readEndStep_of_ne hb] at h
      cases h; rw [dropPacket_eq, htrace]
    case checksum =>
      rw [byteStep_readEnd (by simpa using hf)] at h
      obtain ⟨hne, -⟩ | ⟨-, -, -, rfl⟩ | ⟨-, -, hgood, -⟩ := readEndStep_next h
      · exact absurd hb hne
      · rw [dropPacket_eq, htrace]
      · exact absurd (by simpa [hpayload] using hgood) hchk
  case timeout =>
    cases (step_of_timeout hmove hdue hq).symm.trans h
    refine ⟨fun hf => ?inside, fun hf => ?waiting⟩
    case inside =>
      rw [timeoutStep_of_ne (by simpa using hf), dropPacket_eq, State.setRxq_trace, State.afterMove_trace]
    case waiting => rw [timeoutStep_waitStart (by simpa using hf), State.setRxq_trace, State.afterMove_trace]

/-- Settles O32. -/
theorem foregroundWaitsForInput : Obligations.ForegroundWaitsForInput := by
  intro s hmove hq hdue
  rw [step_of_nextMove hmove, runMove, foreground, if_neg (by simpa using hdue), State.afterMove_rxq, hq]

/-- Settles O33: the decoder takes exactly what the framer's checks of R106 take. -/
theorem stepRunsTheDecodedInstr : Obligations.StepRunsTheDecodedInstr := by
  intro s b rest i hmove hf hq h
  obtain ⟨cmd, len, data, hlen, hmax, rfl, hbytes⟩ := decode_eq_ok h
  simp only [List.cons.injEq] at hbytes
  obtain ⟨-, rfl, rfl, hbody⟩ := hbytes
  obtain ⟨hdata, hends⟩ := List.append_inj' hbody rfl
  simp only [List.cons.injEq] at hends
  obtain ⟨hchk, hb, -⟩ := hends
  obtain ⟨-, -, haccept⟩ := readEndByteStep s b rest hmove hf hq (hlen ▸ hmax)
  rw [haccept hb (by rw [hchk, hdata]), hdata]

/-- Settles O44: an append at the tail, an append unless the timeout is infinite, a removal at the head. -/
theorem environmentMoves : Obligations.EnvironmentMoves := by
  refine ⟨?receive, ?timeout, ?drain, ?empty⟩
  case receive =>
    intro s b hmove
    rw [step_of_nextMove hmove, runMove, appendRx_eq, State.afterMove_rxq]
  case timeout =>
    intro s hmove
    rw [step_of_nextMove hmove, runMove, rxTimeoutEvent]
    cases Config.byteTimeout with
    | none => simp only [Option.isSome_none, Bool.false_eq_true, if_false, ← s.afterMove_rxq]
    | some n => simp only [Option.isSome_some, if_true, appendRx_eq, State.afterMove_rxq]
  case drain =>
    intro s b rest hmove htx
    simp only [step_of_nextMove hmove, runMove, txDrainStep, State.afterMove_txq, htx, State.record, State.setTxq,
      State.afterMove_trace]
  case empty =>
    intro s hmove htx
    simp only [step_of_nextMove hmove, runMove, txDrainStep, State.afterMove_txq, htx]

/-- Settles O45: `State.reset`, register by register. -/
theorem resetStateHoldsTheDefaults : Obligations.ResetStateHoldsTheDefaults :=
  ⟨rfl, rfl, rfl, rfl, rfl, rfl, rfl, rfl, rfl, rfl, build_defaults, rfl, rfl, rfl, rfl, rfl, rfl, rfl⟩

/-- Settles O46. -/
theorem resetEventLoadsResetValues : Obligations.ResetEventLoadsResetValues := fun _ hmove =>
  ⟨_, step_of_nextMove hmove⟩

/-- A line whose inactive level is the opposite of `level` carries `level` exactly when it is on. -/
theorem line_level_iff (on level : Bool) : (if on = true then level else !level) = level ↔ on = true := by
  cases on <;> simp

/-- Settles O42. -/
theorem linesCarryTheActiveLevel : Obligations.LinesCarryTheActiveLevel :=
  ⟨fun _ _ => line_level_iff _ _, fun on => line_level_iff on _⟩

end Sys2Proof.Machine
end

section
/-! PROOF. The foreground without the driver: every move but a tick commutes with forgetting T's registers and pin events, and
a tick is forgotten altogether (spec 60_exceptions.md R171). -/

namespace Sys2Proof.Machine

/-! ## Reading and writing under `withoutDriver` -/

@[simp] theorem State.withoutDriver_fstate (s : State) : s.withoutDriver.fstate = s.fstate := rfl
@[simp] theorem State.withoutDriver_indDue (s : State) : s.withoutDriver.indDue = s.indDue := rfl
@[simp] theorem State.withoutDriver_rxq (s : State) : s.withoutDriver.rxq = s.rxq := rfl
@[simp] theorem State.withoutDriver_txq (s : State) : s.withoutDriver.txq = s.txq := rfl

/-- An observation that is no pin event stays in the trace. -/
theorem withoutDriver_record (s : State) {o : Observation} (ho : o.isPins = false) :
    s.withoutDriver.record o = (s.record o).withoutDriver := by
  simp [State.withoutDriver, State.record, ho]

theorem withoutDriver_dropPacket (s : State) (l : Label) :
    s.withoutDriver.dropPacket l = (s.dropPacket l).withoutDriver :=
  withoutDriver_record s.endInvocation rfl

theorem commandBlind_withoutDriver : CommandBlind State.withoutDriver where
  minutes _ := rfl
  seconds _ := rfl
  redScore _ := rfl
  setScores _ _ _ := rfl
  setTimer _ _ _ := rfl
  setDbuf _ _ := rfl
  setAllianceFlag _ a _ := by cases a <;> rfl
  emitTx _ _ := rfl
  commitLabel s _ _ := withoutDriver_record s rfl

theorem exec_withoutDriver (i : Instr) (s : State) : exec i s.withoutDriver = mapNext State.withoutDriver (exec i s) :=
  commandBlind_withoutDriver.exec_map (fun _ _ _ => rfl) i s

/-! ## Each move but the tick -/

theorem waitStartStep_withoutDriver (b : Byte) (s : State) :
    waitStartStep b s.withoutDriver = (waitStartStep b s).withoutDriver := by
  unfold waitStartStep
  split
  · rfl
  · exact withoutDriver_dropPacket s _

theorem readLenStep_withoutDriver (b : Byte) (s : State) :
    readLenStep b s.withoutDriver = (readLenStep b s).withoutDriver := by
  unfold readLenStep
  split
  · exact withoutDriver_dropPacket (s.setLen b) _
  · split <;> rfl

theorem readDataStep_withoutDriver (b : Byte) (s : State) :
    readDataStep b s.withoutDriver = mapNext State.withoutDriver (readDataStep b s) := by
  by_cases hi : s.idx.val < 10
  · rw [readDataStep_of_lt hi, readDataStep_of_lt (s := s.withoutDriver) hi]; rfl
  · rw [readDataStep_of_not_lt hi, readDataStep_of_not_lt (s := s.withoutDriver) hi, mapNext_fault]

theorem readEndStep_withoutDriver (b : Byte) (s : State) :
    readEndStep b s.withoutDriver = mapNext State.withoutDriver (readEndStep b s) := by
  by_cases hb : b = 0x55
  · subst hb
    by_cases hlen : 10 < s.len.toNat
    · rw [readEndStep_of_len_gt hlen, readEndStep_of_len_gt (s := s.withoutDriver) hlen, mapNext_fault]
    · have hmax : s.len.toNat ≤ 10 := Nat.le_of_not_lt hlen
      by_cases hchk : s.chk = xorFold s.cmd s.len s.payload
      · rw [readEndStep_of_chk_eq hmax hchk, readEndStep_of_chk_eq (s := s.withoutDriver) hmax hchk]
        exact exec_withoutDriver _ s.endInvocation
      · rw [readEndStep_of_chk_ne hmax hchk, readEndStep_of_chk_ne (s := s.withoutDriver) hmax hchk, mapNext_next,
          withoutDriver_dropPacket]
  · rw [readEndStep_of_ne hb, readEndStep_of_ne hb, mapNext_next, withoutDriver_dropPacket]

theorem byteStep_withoutDriver (b : Byte) (s : State) :
    byteStep b s.withoutDriver = mapNext State.withoutDriver (byteStep b s) := by
  cases hf : s.fstate with
  | waitStart =>
    rw [byteStep_waitStart hf, byteStep_waitStart (s := s.withoutDriver) hf, waitStartStep_withoutDriver, mapNext_next]
  | readCmd => rw [byteStep_readCmd hf, byteStep_readCmd (s := s.withoutDriver) hf]; rfl
  | readLen =>
    rw [byteStep_readLen hf, byteStep_readLen (s := s.withoutDriver) hf, readLenStep_withoutDriver, mapNext_next]
  | readData => rw [byteStep_readData hf, byteStep_readData (s := s.withoutDriver) hf, readDataStep_withoutDriver]
  | readChk => rw [byteStep_readChk hf, byteStep_readChk (s := s.withoutDriver) hf]; rfl
  | readEnd => rw [byteStep_readEnd hf, byteStep_readEnd (s := s.withoutDriver) hf, readEndStep_withoutDriver]

theorem timeoutStep_withoutDriver (s : State) : timeoutStep s.withoutDriver = (timeoutStep s).withoutDriver := by
  unfold timeoutStep
  rw [State.withoutDriver_fstate]
  split
  · rfl
  · exact withoutDriver_dropPacket s _

theorem foreground_withoutDriver (s : State) :
    foreground s.withoutDriver = mapNext State.withoutDriver (foreground s) := by
  unfold foreground
  rw [State.withoutDriver_fstate, State.withoutDriver_indDue, State.withoutDriver_rxq]
  split
  · rfl
  · match s.rxq with
    | [] => rfl
    | .timeout :: rest => exact congrArg Host.Outcome.next (timeoutStep_withoutDriver (s.setRxq rest))
    | .byte b :: rest => exact byteStep_withoutDriver b (s.setRxq rest)

theorem runMove_withoutDriver {m : Move} (hm : m ≠ .tick) (s : State) :
    runMove m s.withoutDriver = mapNext State.withoutDriver (runMove m s) := by
  cases m with
  | foreground => exact foreground_withoutDriver s
  | tick => exact absurd rfl hm
  | rxByte b => rfl
  | rxTimeout => simp only [runMove, rxTimeoutEvent]; cases Config.byteTimeout <;> rfl
  | txDrain =>
    simp only [runMove, txDrainStep, State.withoutDriver_txq]
    match s.txq with
    | [] => rfl
    | b :: rest => exact congrArg Host.Outcome.next (withoutDriver_record (s.setTxq rest) rfl)
  | reset => simp [runMove, resetEvent, State.withoutDriver, Observation.isPins, State.reset]

/-- A tick writes nothing that the foreground can see (R171). -/
theorem tick_withoutDriver (s : State) : (tick s).withoutDriver = s.withoutDriver := by
  rw [tick_eq]
  simp [State.withoutDriver, Observation.isPins]

/-- Two states that the foreground cannot tell apart take the same move to two such states. -/
theorem runMove_of_withoutDriver_eq {m : Move} (hm : m ≠ .tick) {s u s' : State} (hu : u.withoutDriver = s.withoutDriver)
    (h : runMove m s = .next s') : ∃ u', runMove m u = .next u' ∧ u'.withoutDriver = s'.withoutDriver := by
  have hcomm := runMove_withoutDriver hm u
  rw [hu, runMove_withoutDriver hm s, h] at hcomm
  exact mapNext_eq_next.mp hcomm.symm

/-- The moves to come are none of what the foreground can see. -/
theorem withoutDriver_agenda (s : State) (agenda : List Move) :
    State.withoutDriver { s with agenda := agenda } = s.withoutDriver := rfl

/-- A run and the run of the same moves without the ticks, from states that the foreground cannot tell apart, end in such
states. -/
theorem run_without_ticks (moves : List Move) {s u t : State} (hs : s.agenda = moves)
    (hu : u.agenda = moves.filter fun m => m != .tick) (huv : u.withoutDriver = s.withoutDriver)
    (h : Host.Core.run Sys2Proof.core moves.length s = .next t) :
    ∃ t', Host.Core.run Sys2Proof.core (moves.filter fun m => m != .tick).length u = .next t' ∧
      t'.withoutDriver = t.withoutDriver := by
  induction moves generalizing s u with
  | nil => cases h; exact ⟨u, rfl, huv⟩
  | cons m rest ih =>
    obtain ⟨s₁, hstep, hrun⟩ := run_succ_next h
    rw [step_of_agenda hs] at hstep
    by_cases hm : m = .tick
    · subst hm
      cases hstep
      exact ih (by rw [tick_eq]) hu (by rw [tick_withoutDriver]; exact huv) hrun
    · have hfilter : (m :: rest).filter (fun m => m != .tick) = m :: rest.filter fun m => m != .tick :=
        List.filter_cons_of_pos (by simpa using hm)
      rw [hfilter] at hu ⊢
      obtain ⟨u₁, hu₁, heq⟩ := runMove_of_withoutDriver_eq hm
        (u := { u with agenda := rest.filter fun m => m != .tick }) (s := { s with agenda := rest }) huv hstep
      obtain ⟨t', hrun', ht'⟩ := ih (runMove_keeps_moves hstep).1 (runMove_keeps_moves hu₁).1 heq hrun
      exact ⟨t', (run_succ_of_next ((step_of_agenda hu).trans hu₁)).trans hrun', ht'⟩

/-- Settles O43: the two runs start in the same registers, queues and labels. -/
theorem ticksDoNotDisturbTheForeground : Obligations.TicksDoNotDisturbTheForeground := fun s _ moves hs h =>
  run_without_ticks moves hs rfl (withoutDriver_agenda s _) h

end Sys2Proof.Machine
end

section
/-! PROOF. What a stretch of moves adds to the trace: the pin events are the ticks' (spec 42_display.md R147 to R149). -/

namespace Sys2Proof.Machine

/-! ## One move -/

/-- Neither a tick nor a reset: the cursor stays, and what is added to the trace is no pin event. -/
theorem runMove_adds_no_pins {m : Move} {s t : State} (h : runMove m s = .next t) (htick : m ≠ .tick)
    (hreset : m ≠ .reset) :
    t.cursor = s.cursor ∧ ∃ added, t.trace = s.trace ++ added ∧ ∀ o ∈ added, o.isPins = false := by
  cases m with
  | foreground =>
    obtain ⟨-, -, e⟩ | ⟨-, ⟨-, e⟩ | ⟨rest, -, e⟩ | ⟨b, rest, -, e⟩⟩ := foreground_cases s <;> rw [runMove, e] at h
    · cases h; exact ⟨rfl, [], by simp [indicatorUpdate_eq], by simp⟩
    · cases h; exact ⟨rfl, [], by simp, by simp⟩
    · cases h
      obtain ⟨labels, hw⟩ := framerWrite_timeoutStep (s.setRxq rest)
      rw [hw]
      exact ⟨rfl, _, rfl, by simp [Observation.isPins]⟩
    · obtain ⟨labels, hw⟩ | ⟨-, -, -, -, hx⟩ := byteStep_cases h
      · rw [hw]
        exact ⟨rfl, _, rfl, by simp [Observation.isPins]⟩
      · obtain ⟨eff, -, htrace, -⟩ := exec_labelled hx
        refine ⟨by rw [exec_next_writes hx]; rfl, _, htrace, by simp [Observation.isPins]⟩
  | tick => exact absurd rfl htick
  | rxByte b => cases h; exact ⟨rfl, [], by simp [appendRx_eq], by simp⟩
  | rxTimeout =>
    cases h
    unfold rxTimeoutEvent
    split
    · exact ⟨rfl, [], by simp, by simp⟩
    · exact ⟨rfl, [], by simp [appendRx_eq], by simp⟩
  | txDrain =>
    cases h
    unfold txDrainStep
    split
    · exact ⟨rfl, [], by simp, by simp⟩
    · next b rest _ => exact ⟨rfl, [.sent b], rfl, by simp [Observation.isPins]⟩
  | reset => exact absurd rfl hreset

theorem energizes_eq_false_of_not_pins {o : Observation} (h : o.isPins = false) (k : Fin 6) : o.energizes k = false := by
  cases o with
  | pins seg sel => cases h
  | _ => rfl

/-- Bit `k` of the one-hot of slot `c` (R146). -/
theorem getLsbD_onehot6 (c k : Fin 6) : (onehot6 c).getLsbD k.val = decide (c = k) := by revert c k; decide

/-- How many of `n` ticks from cursor `c` energize slot `k` (R146). -/
def energizedCount (k : Fin 6) : Nat → Fin 6 → Nat
  | 0, _ => 0
  | n + 1, c => (if c = k then 1 else 0) + energizedCount k n (nextCursor c)

/-- R149 (i), as a count: six ticks energize each slot once, wherever the cursor starts. -/
theorem energizedCount_six (k c : Fin 6) : energizedCount k 6 c = 1 := by revert k c; decide

theorem tick_energizes (s : State) (k : Fin 6) :
    ([.pins s.segOut 0, .pins (segments (s.dbuf.get s.cursor)) 0,
      .pins (segments (s.dbuf.get s.cursor)) (onehot6 s.cursor)].filter (Observation.energizes k)).length =
      if s.cursor = k then 1 else 0 := by
  simp only [List.filter_cons, List.filter_nil, Observation.energizes, getLsbD_onehot6, decide_eq_true_iff]
  by_cases hc : s.cursor = k <;> simp [hc]

/-! ## A stretch of moves -/

/-- In a stretch without a reset, how often a slot is energized depends on the number of ticks and the cursor only. -/
theorem run_energizes (moves later : List Move) {s t : State} (hs : s.agenda = moves ++ later) (hreset : .reset ∉ moves)
    (h : Host.Core.run Sys2Proof.core moves.length s = .next t) :
    ∃ added, t.trace = s.trace ++ added ∧
      ∀ k : Fin 6, (added.filter (Observation.energizes k)).length = energizedCount k (moves.count .tick) s.cursor := by
  induction moves generalizing s with
  | nil => cases h; exact ⟨[], by simp, fun k => by simp [energizedCount]⟩
  | cons m rest ih =>
    obtain ⟨s₁, hstep, hrun⟩ := run_succ_next h
    rw [step_of_agenda hs] at hstep
    have hagenda : s₁.agenda = rest ++ later := (runMove_keeps_moves hstep).1
    obtain ⟨added, htrace, hcount⟩ := ih hagenda (fun hmem => hreset (.tail _ hmem)) hrun
    by_cases hm : m = .tick
    · subst hm
      cases hstep
      rw [tick_eq] at htrace hcount
      refine ⟨_, htrace.trans (List.append_assoc _ _ _), fun k => ?_⟩
      rw [List.filter_append, List.length_append, hcount k, List.count_cons_self, energizedCount]
      congr 1
      exact tick_energizes s k
    · obtain ⟨hcursor, own, hown, hnone⟩ := runMove_adds_no_pins hstep hm (fun heq => hreset (heq ▸ .head _))
      rw [hown] at htrace
      refine ⟨own ++ added, htrace.trans (List.append_assoc _ _ _), fun k => ?_⟩
      have hquiet : own.filter (Observation.energizes k) = [] :=
        List.filter_eq_nil_iff.mpr fun o ho => by simp [energizes_eq_false_of_not_pins (hnone o ho)]
      rw [List.filter_append, hquiet, List.nil_append, hcount k, hcursor, List.count_cons_of_ne hm]

/-- Settles O38: six ticks, wherever they stand, count once for each slot. -/
theorem sixTicksEnergizeEachSlotOnce : Obligations.SixTicksEnergizeEachSlotOnce := by
  intro s t later moves hs hsix hreset h k
  obtain ⟨added, htrace, hcount⟩ := run_energizes moves later hs hreset h
  rw [htrace, List.drop_left, hcount k, hsix, energizedCount_six]

/-! ## Ticks alone -/

/-- A pin event in which slot `k` is energized carries the slot's own pattern of `d`. -/
def ShowsOwnPattern (d : Vector Byte 6) (o : Observation) : Prop :=
  ∀ (k : Fin 6) (seg : BitVec 7) (sel : BitVec 6), o = .pins seg sel → sel.getLsbD k.val = true → seg = segments (d.get k)

theorem showsOwnPattern_blank (d : Vector Byte 6) (seg : BitVec 7) : ShowsOwnPattern d (.pins seg 0) := by
  rintro k _ _ ⟨⟩ hk
  simp at hk

theorem showsOwnPattern_select (d : Vector Byte 6) (c : Fin 6) :
    ShowsOwnPattern d (.pins (segments (d.get c)) (onehot6 c)) := by
  rintro k _ _ ⟨⟩ hk
  rw [getLsbD_onehot6, decide_eq_true_iff] at hk
  rw [hk]

/-- Ticks alone always answer, keep `DBUF`, and show each slot its own pattern. -/
theorem run_ticks (n : Nat) (later : List Move) {s : State} (hs : s.agenda = List.replicate n .tick ++ later) :
    ∃ t, Host.Core.run Sys2Proof.core n s = .next t ∧ t.cursor = nextCursor^[n] s.cursor ∧ t.dbuf = s.dbuf ∧
      ∃ added, t.trace = s.trace ++ added ∧ ∀ o ∈ added, ShowsOwnPattern s.dbuf o := by
  induction n generalizing s with
  | zero => exact ⟨s, rfl, rfl, rfl, [], by simp, by simp⟩
  | succ n ih =>
    have hstep : step s = .next (tick { s with agenda := List.replicate n .tick ++ later }) := step_of_agenda hs
    obtain ⟨t, hrun, hcursor, hdbuf, added, htrace, hshows⟩ :=
      ih (s := tick { s with agenda := List.replicate n .tick ++ later }) (by rw [tick_eq])
    rw [tick_eq] at hcursor hdbuf htrace hshows
    refine ⟨t, (run_succ_of_next hstep).trans hrun, hcursor, hdbuf, _, htrace.trans (List.append_assoc _ _ _), ?_⟩
    intro o ho
    simp only [List.mem_append, List.mem_cons, List.not_mem_nil, or_false] at ho
    obtain (rfl | rfl | rfl) | ho := ho
    · exact showsOwnPattern_blank _ _
    · exact showsOwnPattern_blank _ _
    · exact showsOwnPattern_select _ _
    · exact hshows o ho

theorem nextCursor_iterate_six (c : Fin 6) : nextCursor^[6] c = c := by revert c; decide

/-- Settles O39: six ticks energize every slot (R149 (i)), and an event that energizes a slot shows its pattern. -/
theorem fullCycleShowsTheBuffer : Obligations.FullCycleShowsTheBuffer := by
  intro s later hs
  obtain ⟨t, hrun, hcursor, hdbuf, added, htrace, hshows⟩ := run_ticks 6 later hs
  refine ⟨t, hrun, hcursor.trans (nextCursor_iterate_six s.cursor), hdbuf, fun k => ?_⟩
  have hone := sixTicksEnergizeEachSlotOnce s t later (List.replicate 6 .tick) hs (by decide) (by decide) hrun k
  rw [htrace, List.drop_left] at hone ⊢
  refine ⟨?every, fun seg sel hmem hk => hshows _ hmem k seg sel rfl hk⟩
  case every =>
    obtain ⟨o, ho⟩ := List.exists_mem_of_length_pos (hone ▸ Nat.one_pos)
    obtain ⟨hmem, henergizes⟩ := List.mem_filter.mp ho
    cases o with
    | pins seg sel =>
      have hseg : seg = (s.dbuf.get k).setWidth 7 := hshows _ hmem k seg sel rfl henergizes
      exact ⟨sel, hseg ▸ hmem, henergizes⟩
    | _ => cases henergizes

end Sys2Proof.Machine
end

section
/-! PROOF. The run over one packet (spec 40_framer.md R114): field by field to the state that holds the packet, then the
commit. -/

namespace Sys2Proof.Machine

theorem run_add_of_next {m : Nat} (n : Nat) {s t : State} (h : Host.Core.run Sys2Proof.core m s = .next t) :
    Host.Core.run Sys2Proof.core (m + n) s = Host.Core.run Sys2Proof.core n t := by
  induction m generalizing s with
  | zero => cases h; rw [Nat.zero_add]
  | succ m ih =>
    obtain ⟨u, hstep, hrun⟩ := run_succ_next h
    rw [Nat.add_right_comm, run_succ_of_next hstep, ih hrun]

/-! ## The byte steps of a packet, where the move comes from the agenda -/

theorem step_startMarker {s : State} {moves : List Move} {q : List RxEvent} (hf : s.fstate = .waitStart)
    (hdue : s.indDue = false) (hs : s.agenda = .foreground :: moves) (hq : s.rxq = .byte Config.startMarker :: q) :
    step s = .next { s with agenda := moves, rxq := q, fstate := .readCmd } := by
  rw [(waitStartByteStep s _ q (nextMove_cons hs) hf hdue hq).1 rfl, afterMove_cons hs]

theorem step_readCmd {s : State} {b : Byte} {moves : List Move} {q : List RxEvent} (hf : s.fstate = .readCmd)
    (hs : s.agenda = .foreground :: moves) (hq : s.rxq = .byte b :: q) :
    step s = .next { s with agenda := moves, rxq := q, cmd := b, fstate := .readLen } := by
  rw [readCmdByteStep s b q (nextMove_cons hs) hf hq, afterMove_cons hs]

theorem step_readChk {s : State} {b : Byte} {moves : List Move} {q : List RxEvent} (hf : s.fstate = .readChk)
    (hs : s.agenda = .foreground :: moves) (hq : s.rxq = .byte b :: q) :
    step s = .next { s with agenda := moves, rxq := q, chk := b, fstate := .readEnd } := by
  rw [readChkByteStep s b q (nextMove_cons hs) hf hq, afterMove_cons hs]

/-- The byte goes to `DATA[IDX]` (R104). -/
theorem step_readData {s : State} {b : Byte} {moves : List Move} {q : List RxEvent} (hf : s.fstate = .readData)
    (hi : s.idx.val < 10) (hs : s.agenda = .foreground :: moves) (hq : s.rxq = .byte b :: q) :
    step s = .next { s with
      agenda := moves
      rxq := q
      data := overwriteData s.idx.val [b] s.data
      idx := Fin.ofNat 11 (s.idx.val + 1)
      fstate := if s.idx.val + 1 = s.len.toNat then .readChk else .readData } := by
  have hidx : (⟨s.idx.val + 1, by omega⟩ : Fin 11) = Fin.ofNat 11 (s.idx.val + 1) :=
    Fin.ext (Nat.mod_eq_of_lt (by omega)).symm
  rw [readDataByteStep s b q (nextMove_cons hs) hf hq hi, afterMove_cons hs, hidx, ← setIfInBounds_of_lt _ hi]
  rfl

/-! ## The fields of the packet -/

/-- As many data bytes as are missing fill `DATA` from `IDX` on (R104). -/
theorem run_readData {bs : List Byte} {s : State} {moves : List Move} {q : List RxEvent} (hne : bs ≠ [])
    (hf : s.fstate = .readData) (hlen : s.idx.val + bs.length = s.len.toNat) (hmax : s.len.toNat ≤ 10)
    (hs : s.agenda = List.replicate bs.length .foreground ++ moves) (hq : s.rxq = bs.map .byte ++ q) :
    Host.Core.run Sys2Proof.core bs.length s = .next { s with
      agenda := moves
      rxq := q
      data := overwriteData s.idx.val bs s.data
      idx := Fin.ofNat 11 s.len.toNat
      fstate := .readChk } := by
  induction bs generalizing s with
  | nil => exact absurd rfl hne
  | cons b bs ih =>
    have hi : s.idx.val < 10 := by rw [List.length_cons] at hlen; omega
    have hidx : (Fin.ofNat 11 (s.idx.val + 1)).val = s.idx.val + 1 := Nat.mod_eq_of_lt (by omega)
    have hs' : s.agenda = .foreground :: (List.replicate bs.length .foreground ++ moves) := hs
    have hq' : s.rxq = .byte b :: (bs.map .byte ++ q) := hq
    have hstep := step_readData hf hi hs' hq'
    cases bs with
    | nil =>
      have hfull : s.idx.val + 1 = s.len.toNat := hlen
      rw [if_pos hfull, hfull] at hstep
      exact run_succ_of_next hstep
    | cons b' bs =>
      have hlen' : s.idx.val + 1 + (b' :: bs).length = s.len.toNat := by simp only [List.length_cons] at hlen ⊢; omega
      rw [if_neg (by rw [List.length_cons] at hlen'; omega)] at hstep
      refine (run_succ_of_next hstep).trans ((ih (by simp) rfl ?_ ?_ rfl rfl).trans ?_)
      · simpa only [hidx] using hlen'
      · exact hmax
      · simp only [hidx]; rfl

/-- The length byte and the data it announces (R103, R104), none included. -/
theorem run_readLen_readData {bs : List Byte} {s : State} {moves : List Move} {q : List RxEvent} (hf : s.fstate = .readLen)
    (hmax : bs.length ≤ 10) (hs : s.agenda = List.replicate (bs.length + 1) .foreground ++ moves)
    (hq : s.rxq = .byte (BitVec.ofNat 8 bs.length) :: (bs.map .byte ++ q)) :
    Host.Core.run Sys2Proof.core (bs.length + 1) s = .next { s with
      agenda := moves
      rxq := q
      len := BitVec.ofNat 8 bs.length
      data := overwriteData 0 bs s.data
      idx := Fin.ofNat 11 bs.length
      fstate := .readChk } := by
  have hbyte : (BitVec.ofNat 8 bs.length).toNat = bs.length := by rw [BitVec.toNat_ofNat]; omega
  obtain ⟨-, hzero, hlegal⟩ := readLenByteStep s _ _ (nextMove_cons hs) hf hq
  rw [afterMove_cons hs] at hzero hlegal
  cases bs with
  | nil => rw [run_succ_of_next (hzero rfl)]; rfl
  | cons b bs =>
    have hne : BitVec.ofNat 8 (b :: bs).length ≠ 0 := fun h0 => by rw [h0] at hbyte; simp at hbyte
    refine (run_succ_of_next (hlegal hne (hbyte.trans_le hmax))).trans
      ((run_readData (by simp) rfl ?_ (hbyte.trans_le hmax) rfl rfl).trans ?_)
    · exact (Nat.zero_add _).trans hbyte.symm
    · simp only [hbyte]; rfl

/-- From `WaitStart` to the end marker: the framer holds the packet of `i` (R101 to R105). -/
theorem run_to_endMarker {i : Instr} {s : State} {moves : List Move} {q : List RxEvent} (hwf : i.wellFormed = true)
    (hf : s.fstate = .waitStart) (hdue : s.indDue = false)
    (hs : s.agenda = List.replicate (i.data.length + 4) .foreground ++ moves)
    (hq : s.rxq = .byte Config.startMarker :: .byte i.code :: .byte i.lenByte ::
      (i.data.map .byte ++ .byte i.checksum :: q)) :
    Host.Core.run Sys2Proof.core (i.data.length + 4) s =
      .next (State.holdPacket { s with agenda := moves, rxq := q } i.code i.lenByte i.data) := by
  have hagenda : s.agenda =
      .foreground :: .foreground :: (List.replicate (i.data.length + 1) .foreground ++ .foreground :: moves) := by
    rw [hs, List.replicate_succ, List.replicate_succ, List.replicate_succ']
    simp
  refine (run_succ_of_next (step_startMarker hf hdue hagenda hq)).trans
    ((run_succ_of_next (step_readCmd rfl rfl rfl)).trans
      ((run_add_of_next 1 (run_readLen_readData rfl (length_data_le hwf) rfl rfl)).trans ?_))
  rw [run_one, step_readChk rfl rfl rfl, State.holdPacket, toNat_lenByte hwf]
  rfl

/-- What the framer dispatches from a held packet is its data (R24). -/
theorem data_holdPacket {data : List Byte} (hmax : data.length ≤ 10) (s : State) (cmd len : Byte) :
    (s.holdPacket cmd len data).data.toList.take data.length = data := by
  have hover : (s.holdPacket cmd len data).data = overwriteData 0 data s.data := rfl
  rw [hover, overwriteData_toList data 0 s.data (by omega)]
  simp

/-- The end marker commits a held packet (R106). -/
theorem step_endMarker_holdPacket {i : Instr} {s : State} {moves : List Move} {q : List RxEvent} (hwf : i.wellFormed = true)
    (hs : s.agenda = .foreground :: moves) (hq : s.rxq = .byte Config.endMarker :: q) :
    step (s.holdPacket i.code i.lenByte i.data) =
      exec i (State.endInvocation { s.holdPacket i.code i.lenByte i.data with agenda := moves, rxq := q }) := by
  have hbyte : i.lenByte.toNat = i.data.length := toNat_lenByte hwf
  have hdata : (s.holdPacket i.code i.lenByte i.data).data.toList.take i.lenByte.toNat = i.data := by
    rw [hbyte, data_holdPacket (length_data_le hwf)]
  have hagenda : (s.holdPacket i.code i.lenByte i.data).agenda = .foreground :: moves := hs
  obtain ⟨-, -, haccept⟩ := readEndByteStep (s.holdPacket i.code i.lenByte i.data) _ q (nextMove_cons hagenda) rfl hq
    (hbyte.trans_le (length_data_le hwf))
  have hlen : (s.holdPacket i.code i.lenByte i.data).len = i.lenByte := rfl
  rw [hlen, hdata] at haccept
  rw [haccept rfl rfl, afterMove_cons hagenda]
  exact congrArg (exec · _) (decodeCommand_code_data hwf)

/-- Settles O34: the packet is held after `LEN + 4` steps, and the end marker commits it. -/
theorem packetAtQueueHeadCommits : Obligations.PacketAtQueueHeadCommits := by
  intro i s rest later hwf hf hdue hq hs
  have hbyte : i.lenByte.toNat = i.data.length := toNat_lenByte hwf
  have hagenda : s.agenda = List.replicate (i.data.length + 4) .foreground ++ .foreground :: later := by
    rw [hs, List.replicate_succ', List.append_assoc]; rfl
  have hbytes : s.rxq = .byte Config.startMarker :: .byte i.code :: .byte i.lenByte ::
      (i.data.map .byte ++ .byte i.checksum :: .byte Config.endMarker :: rest) := by
    rw [hq]; simp [encode, encodeWith]
  rw [run_add_of_next 1 (run_to_endMarker hwf hf hdue hagenda hbytes), run_one, step_endMarker_holdPacket hwf rfl rfl]
  simp only [State.holdPacket, hbyte]
  rfl

end Sys2Proof.Machine
end

section
/-! PROOF. The invariant (spec 10_state.md R44 to R46, 40_framer.md R103 and R104, 42_display.md R151): each move keeps it, and
under it each move has an answer. -/

namespace Sys2Proof.Machine

/-! ## Parts of the invariant that do not depend on what was done -/

/-- Before the length byte is read the scratch registers have no bounds to meet. -/
theorem framerOk_of_early {s : State} (hf : s.fstate = .waitStart ∨ s.fstate = .readCmd ∨ s.fstate = .readLen) :
    s.framerOk := by
  obtain hf | hf | hf := hf <;> simp [State.framerOk, hf]

theorem indicatorOk_of_due {s : State} (hf : s.fstate = .waitStart) (hdue : s.indDue = true) : s.indicatorOk := by
  simp [State.indicatorOk, hf, hdue]

theorem State.Inv.afterMove {s : State} (h : s.Inv) : s.afterMove.Inv := by
  obtain ⟨a, n, e⟩ := afterMove_eq s
  rw [e]
  exact ⟨h.range, h.buffer, h.select, h.pinEvents, h.framer, h.indicator⟩

theorem State.Inv.setRxq {s : State} (h : s.Inv) (q : List RxEvent) : (s.setRxq q).Inv :=
  ⟨h.range, h.buffer, h.select, h.pinEvents, h.framer, h.indicator⟩

theorem selectOk_append {trace added : List Observation} (h : ∀ o ∈ trace, o.selectOk = true)
    (hadded : ∀ o ∈ added, o.selectOk = true) : ∀ o ∈ trace ++ added, o.selectOk = true := fun o ho =>
  (List.mem_append.mp ho).elim (h o) (hadded o)

/-- Settles O47: the reset values, evaluated. -/
theorem resetHasTheInvariant : Obligations.ResetHasTheInvariant where
  range := by decide
  buffer := build_defaults
  select := .inl rfl
  pinEvents := nofun
  framer := framerOk_of_early (.inl rfl)
  indicator := by decide

/-! ## The framer's writes -/

/-- A write of framer registers leaves R44 to R46 alone; the framer's bounds and R151 are to be shown. -/
theorem State.Inv.of_framerWrite {s t : State} (h : s.Inv) (hw : FramerWrite s t) (hframer : t.framerOk)
    (hindicator : t.indicatorOk) : t.Inv := by
  obtain ⟨labels, ht⟩ := hw
  refine ⟨?_, ?_, ?_, ?_, hframer, hindicator⟩ <;> rw [ht]
  · exact h.range
  · exact h.buffer
  · exact h.select
  · refine selectOk_append h.pinEvents fun o ho => ?_
    obtain ⟨l, -, rfl⟩ := List.mem_map.mp ho
    rfl

/-- The end of an invocation (R27). -/
theorem State.Inv.of_ended {s t : State} (h : s.Inv) (hw : FramerWrite s t) (hf : t.fstate = .waitStart)
    (hdue : t.indDue = true) : t.Inv :=
  h.of_framerWrite hw (framerOk_of_early (.inl hf)) (indicatorOk_of_due hf hdue)

/-- A step inside an invocation: no update becomes due, and the outputs stay (R100, R151). -/
theorem State.Inv.of_inside {s t : State} (h : s.Inv) (hw : FramerWrite s t) (hdue : s.indDue = false)
    (hdue' : t.indDue = false) (hframer : t.framerOk) : t.Inv := by
  refine h.of_framerWrite hw hframer ⟨fun _ => ?_, fun _ => hdue'⟩
  obtain ⟨labels, ht⟩ := hw
  rw [ht]
  exact h.indicator.1 hdue

/-- Inside a packet no update is due, and a byte step in `WaitStart` is taken only when none is (R100). -/
theorem State.Inv.not_due {s : State} (h : s.Inv) (hdue : ¬(s.fstate = .waitStart ∧ s.indDue = true)) :
    s.indDue = false := by
  by_cases hf : s.fstate = .waitStart
  · simpa [hf] using hdue
  · exact h.indicator.2 hf

/-! ## The commit -/

/-- A commit keeps R44 and rebuilds `DBUF` where it changes what R45 builds it from. -/
theorem exec_keeps_range_buffer {i : Instr} {s t : State} (hr : s.rangeOk) (hb : s.bufferOk) (h : exec i s = .next t) :
    t.rangeOk ∧ t.bufferOk := by
  obtain ⟨hm, hsec, hred, hblue⟩ := hr
  cases i with
  | updateScore data =>
    obtain ⟨e, rfl⟩ | ⟨red, blue, d, -, hred', hblue', hd, rfl⟩ := execUpdateScore_next h
    · exact ⟨⟨hm, hsec, hred, hblue⟩, hb⟩
    · exact ⟨⟨hm, hsec, hred', hblue'⟩, hd⟩
  | updateTimer data =>
    obtain ⟨e, rfl⟩ | ⟨m, sec, d, -, hm', hsec', hd, rfl⟩ := execUpdateTimer_next h
    · exact ⟨⟨hm, hsec, hred, hblue⟩, hb⟩
    · exact ⟨⟨hm', hsec', hred, hblue⟩, hd⟩
  | resetMatch data =>
    cases (execResetMatch_eq data s).symm.trans h
    exact ⟨resetHasTheInvariant.range, build_defaults⟩
  | setLed data =>
    obtain ⟨e, rfl⟩ | ⟨_, _, a, v, -, -, -, rfl⟩ := execSetLed_next h
    · exact ⟨⟨hm, hsec, hred, hblue⟩, hb⟩
    · cases a <;> exact ⟨⟨hm, hsec, hred, hblue⟩, hb⟩
  | _ => cases h; exact ⟨⟨hm, hsec, hred, hblue⟩, hb⟩

theorem State.Inv.after_exec {i : Instr} {s t : State} (h : s.Inv) (hf : s.fstate = .waitStart) (hdue : s.indDue = true)
    (hx : exec i s = .next t) : t.Inv := by
  obtain ⟨hrange, hbuffer⟩ := exec_keeps_range_buffer h.range h.buffer hx
  obtain ⟨e, -, htrace, -⟩ := exec_labelled hx
  have hw := exec_next_writes hx
  have hf' : t.fstate = .waitStart := by rw [hw]; exact hf
  have hdue' : t.indDue = true := by rw [hw]; exact hdue
  refine ⟨hrange, hbuffer, ?_, ?_, framerOk_of_early (.inl hf'), indicatorOk_of_due hf' hdue'⟩
  · rw [hw]; exact h.select
  · rw [htrace]; exact selectOk_append h.pinEvents (by simp [Observation.selectOk])

/-! ## F's step -/

theorem State.Inv.after_readDataStep {b : Byte} {s t : State} (h : s.Inv) (hf : s.fstate = .readData)
    (hdue : s.indDue = false) (hs : readDataStep b s = .next t) : t.Inv := by
  obtain ⟨hlen, hidx⟩ := h.framer.1 hf
  obtain ⟨-, hval, rfl⟩ := readDataStep_next hs
  refine h.of_inside (.of_no_label rfl) hdue hdue ⟨fun hmore => ?more, fun hall => ?all⟩
  case more =>
    have hne : s.idx.val + 1 ≠ s.len.toNat := fun hfull => by simp [hfull] at hmore
    exact ⟨hlen, hval.trans_lt (Nat.lt_of_le_of_ne hidx hne)⟩
  case all =>
    have hfull : s.idx.val + 1 = s.len.toNat := by by_contra hne; simp [hne, hf] at hall
    exact ⟨hlen, hval.trans hfull⟩

theorem State.Inv.after_readEndStep {b : Byte} {s t : State} (h : s.Inv) (hs : readEndStep b s = .next t) : t.Inv := by
  obtain ⟨-, rfl⟩ | ⟨-, -, -, rfl⟩ | ⟨-, -, -, hx⟩ := readEndStep_next hs
  · exact h.of_ended (.dropPacket s _) rfl rfl
  · exact h.of_ended (.dropPacket s _) rfl rfl
  · exact (h.of_ended (t := s.endInvocation) (.of_no_label rfl) rfl rfl).after_exec rfl rfl hx

theorem State.Inv.after_readLenStep {s : State} (h : s.Inv) (hdue : s.indDue = false) (b : Byte) :
    (readLenStep b s).Inv := by
  have hw := framerWrite_readLenStep b s
  by_cases hmax : 10 < b.toNat
  · rw [readLenStep_of_gt hmax] at hw ⊢
    exact h.of_ended hw rfl rfl
  · by_cases h0 : b = 0
    · subst h0
      rw [readLenStep_zero] at hw ⊢
      exact h.of_inside hw hdue hdue ⟨nofun, fun _ => ⟨Nat.zero_le 10, rfl⟩⟩
    · have hpos : 0 < b.toNat := Nat.pos_of_ne_zero fun hz => h0 (BitVec.eq_of_toNat_eq hz)
      rw [readLenStep_of_le h0 (by omega)] at hw ⊢
      exact h.of_inside hw hdue hdue ⟨fun _ => ⟨Nat.le_of_not_lt hmax, hpos⟩, by simp⟩

theorem State.Inv.after_byteStep {b : Byte} {s t : State} (h : s.Inv) (hdue : s.indDue = false)
    (hs : byteStep b s = .next t) : t.Inv := by
  cases hf : s.fstate with
  | waitStart =>
    cases (byteStep_waitStart hf b).symm.trans hs
    have hw := framerWrite_waitStartStep b s
    by_cases hb : b = 0xAA
    · subst hb
      rw [waitStartStep_start] at hw ⊢
      exact h.of_inside hw hdue hdue (framerOk_of_early (.inr (.inl rfl)))
    · rw [waitStartStep_of_ne hb] at hw ⊢
      exact h.of_ended hw rfl rfl
  | readCmd =>
    cases (byteStep_readCmd hf b).symm.trans hs
    exact h.of_inside (.of_no_label rfl) hdue hdue (framerOk_of_early (.inr (.inr rfl)))
  | readLen =>
    cases (byteStep_readLen hf b).symm.trans hs
    exact h.after_readLenStep hdue b
  | readData => exact h.after_readDataStep hf hdue ((byteStep_readData hf b).symm.trans hs)
  | readChk =>
    cases (byteStep_readChk hf b).symm.trans hs
    exact h.of_inside (.of_no_label rfl) hdue hdue ⟨nofun, fun _ => h.framer.2 (.inl hf)⟩
  | readEnd => exact h.after_readEndStep ((byteStep_readEnd hf b).symm.trans hs)

theorem State.Inv.after_timeoutStep {s : State} (h : s.Inv) : (timeoutStep s).Inv := by
  by_cases hf : s.fstate = .waitStart
  · rwa [timeoutStep_waitStart hf]
  · rw [timeoutStep_of_ne hf]
    exact h.of_ended (.dropPacket s _) rfl rfl

/-- R150 computes what R151 asks for. -/
theorem State.Inv.after_indicatorUpdate {s : State} (h : s.Inv) : (indicatorUpdate s).Inv :=
  ⟨h.range, h.buffer, h.select, h.pinEvents, h.framer, fun _ => ⟨rfl, rfl⟩, fun _ => rfl⟩

theorem State.Inv.after_foreground {s t : State} (h : s.Inv) (hs : foreground s = .next t) : t.Inv := by
  obtain ⟨-, -, e⟩ | ⟨hdue, ⟨-, e⟩ | ⟨rest, -, e⟩ | ⟨b, rest, -, e⟩⟩ := foreground_cases s <;> rw [e] at hs
  · cases hs; exact h.after_indicatorUpdate
  · cases hs; exact h
  · cases hs; exact (h.setRxq rest).after_timeoutStep
  · exact (h.setRxq rest).after_byteStep (h.not_due hdue) hs

/-! ## The other agents, and the step -/

/-- The tick selects one slot at a time, and blanks before it changes the segments (R146). -/
theorem State.Inv.after_tick {s : State} (h : s.Inv) : (tick s).Inv := by
  rw [tick_eq]
  refine ⟨h.range, h.buffer, .inr ⟨s.cursor, rfl⟩, selectOk_append h.pinEvents ?_, h.framer, h.indicator⟩
  have hblank : selectOk 0 := .inl rfl
  have hslot : selectOk (onehot6 s.cursor) := .inr ⟨s.cursor, rfl⟩
  simp only [List.mem_cons, List.not_mem_nil, or_false, forall_eq_or_imp, forall_eq, Observation.selectOk, decide_eq_true_iff]
  exact ⟨hblank, hblank, hslot⟩



/-- A reset event loads the reset values; only the trace, with a mark, goes on (R180, log 11). -/
theorem State.Inv.after_resetEvent {s : State} (h : s.Inv) : (resetEvent s).Inv where
  range := resetHasTheInvariant.range
  buffer := resetHasTheInvariant.buffer
  select := resetHasTheInvariant.select
  pinEvents := selectOk_append h.pinEvents (by simp [Observation.selectOk])
  framer := resetHasTheInvariant.framer
  indicator := resetHasTheInvariant.indicator

theorem State.Inv.after_txDrainStep {s : State} (h : s.Inv) : (txDrainStep s).Inv := by
  unfold txDrainStep
  split
  · exact h
  · exact ⟨h.range, h.buffer, h.select, selectOk_append h.pinEvents (by simp [Observation.selectOk]), h.framer, h.indicator⟩

theorem State.Inv.after_runMove {m : Move} {s t : State} (h : s.Inv) (hs : runMove m s = .next t) : t.Inv := by
  cases m with
  | foreground => exact h.after_foreground hs
  | tick => cases hs; exact h.after_tick
  | rxByte b => cases hs; exact h.setRxq _
  | rxTimeout =>
    cases hs
    unfold rxTimeoutEvent
    split
    · exact h
    · exact h.setRxq _
  | txDrain => cases hs; exact h.after_txDrainStep
  | reset => cases hs; exact h.after_resetEvent

/-- Settles O48: using up the move keeps the invariant, and so does the agent's move. -/
theorem everyStepKeepsTheInvariant : Obligations.EveryStepKeepsTheInvariant := fun _ _ h hs =>
  h.afterMove.after_runMove hs

end Sys2Proof.Machine
end

section
/-! PROOF. Under the invariant every step has an answer (spec 40_framer.md, totality), and a tick shows the match state. -/

namespace Sys2Proof.Machine

/-- With the values in their ranges (R44) every rebuild has a buffer, so every commit answers. -/
theorem exec_defined (i : Instr) {s : State} (hr : s.rangeOk) : ∃ t, exec i s = .next t := by
  obtain ⟨hm, hsec, hred, -⟩ := hr
  have hsec' : s.seconds.toNat ≤ 99 := by omega
  cases i with
  | updateScore data =>
    obtain hshort | ⟨red, blue, rest, rfl⟩ := operands_cases data
    · exact ⟨_, exec_updateScore_of_short hshort s⟩
    · by_cases hin : red.toNat ≤ 99 ∧ blue.toNat ≤ 99
      · obtain ⟨d, hd⟩ := build_isSome hm hsec' hin.1
        exact ⟨_, exec_updateScore_of_le hin.1 hin.2 rest hd⟩
      · exact ⟨_, exec_updateScore_of_gt (by omega) rest s⟩
  | updateTimer data =>
    obtain hshort | ⟨m, sec, rest, rfl⟩ := operands_cases data
    · exact ⟨_, exec_updateTimer_of_short hshort s⟩
    · by_cases hin : m.toNat ≤ 99 ∧ sec.toNat ≤ 59
      · obtain ⟨d, hd⟩ := build_isSome hin.1 (show sec.toNat ≤ 99 by omega) hred
        exact ⟨_, exec_updateTimer_of_le hin.1 hin.2 rest hd⟩
      · exact ⟨_, exec_updateTimer_of_gt (by omega) rest s⟩
  | startMatch data => exact ⟨_, exec_startMatch data s⟩
  | stopMatch data => exact ⟨_, exec_stopMatch data s⟩
  | resetMatch data => exact ⟨_, execResetMatch_eq data s⟩
  | ping data => exact ⟨_, exec_ping data s⟩
  | setLed data =>
    obtain hshort | ⟨alliance, state, rest, rfl⟩ := operands_cases data
    · exact ⟨_, exec_setLed_of_short hshort s⟩
    · cases ha : allianceOf alliance with
      | none => obtain ⟨e, he⟩ := exec_setLed_of_none (.inl ha) rest s; exact ⟨_, he⟩
      | some a =>
        cases hv : setLedState state with
        | none => obtain ⟨e, he⟩ := exec_setLed_of_none (.inr hv) rest s; exact ⟨_, he⟩
        | some v => exact ⟨_, exec_setLed_of_value ha hv rest s⟩
  | unknown code data => exact ⟨_, rfl⟩

/-- The framer's bounds keep `IDX` below ten where a data byte comes, and `LEN` at most ten at the end marker. -/
theorem byteStep_defined (b : Byte) {s : State} (h : s.Inv) : ∃ t, byteStep b s = .next t := by
  cases hf : s.fstate with
  | waitStart => exact ⟨_, byteStep_waitStart hf b⟩
  | readCmd => exact ⟨_, byteStep_readCmd hf b⟩
  | readLen => exact ⟨_, byteStep_readLen hf b⟩
  | readData =>
    obtain ⟨hlen, hidx⟩ := h.framer.1 hf
    exact ⟨_, (byteStep_readData hf b).trans (readDataStep_of_lt (by omega) b)⟩
  | readChk => exact ⟨_, byteStep_readChk hf b⟩
  | readEnd =>
    rw [byteStep_readEnd hf]
    obtain ⟨hlen, -⟩ := h.framer.2 (.inr hf)
    by_cases hb : b = 0x55
    · subst hb
      by_cases hchk : s.chk = xorFold s.cmd s.len s.payload
      · rw [readEndStep_of_chk_eq hlen hchk]
        exact exec_defined _ (s := s.endInvocation) h.range
      · exact ⟨_, readEndStep_of_chk_ne hlen hchk⟩
    · exact ⟨_, readEndStep_of_ne hb s⟩

theorem foreground_defined {s : State} (h : s.Inv) : ∃ t, foreground s = .next t := by
  obtain ⟨-, -, e⟩ | ⟨-, ⟨-, e⟩ | ⟨rest, -, e⟩ | ⟨b, rest, -, e⟩⟩ := foreground_cases s
  · exact ⟨_, e⟩
  · exact ⟨_, e⟩
  · exact ⟨_, e⟩
  · rw [e]; exact byteStep_defined b (h.setRxq rest)

/-- Settles O49: only F's step can fail to answer, and under the invariant it does not. -/
theorem noInputStopsTheMachine : Obligations.NoInputStopsTheMachine := by
  intro s h
  cases hmove : s.nextMove with
  | foreground => rw [step_of_nextMove hmove]; exact foreground_defined h.afterMove
  | _ => exact ⟨_, step_of_nextMove hmove⟩

/-- Settles O40: the tick drives the cursor's entry of `DBUF`, which the invariant says is the build (R45). -/
theorem tickShowsTheCurrentMatchState : Obligations.TickShowsTheCurrentMatchState := by
  intro s h hmove
  refine ⟨s.dbuf, _, h.buffer, step_of_tick hmove, ?_, ?_⟩ <;>
    rw [tick_eq, State.afterMove_cursor]
  rw [State.afterMove_dbuf, segments]

end Sys2Proof.Machine
end

section
/-! PROOF. Fairness (spec 20_memory.md R54 and R67): the free orders are the fair ones, and every run from a sound state takes
its moves from one. -/

namespace Sys2Proof.Machine

/-! ## The free orders are fair -/

/-- Each closing move comes again and again. -/
theorem exists_fairMove_closing (stretch : Nat → List Move) (n k : Nat) (h : n ≤ k) :
    ∃ p, n ≤ p ∧ fairMove stretch p = closingMove k := by
  have hlen := le_length_fairPrefix stretch k
  exact ⟨_, by omega, fairMove_closing stretch k⟩

theorem fairOrder_fairMove (stretch : Nat → List Move) : FairOrder (fairMove stretch) := by
  refine ⟨fun n => ?tick, fun n => ?foreground⟩
  case tick => rw [← closingMove_even n]; exact exists_fairMove_closing stretch n _ (by omega)
  case foreground => rw [← closingMove_odd n]; exact exists_fairMove_closing stretch n _ (by omega)

/-! ## Every fair order is a free one: cut it behind moves of T and of F in turn -/

/-- The beginning of stretch `n` of an order, where `close n p` is the place, from `p` on, of the move that closes it. -/
def cutAt (close : Nat → Nat → Nat) : Nat → Nat
  | 0 => 0
  | n + 1 => close n (cutAt close n) + 1

/-- Stretch `n` of the order: from its beginning up to its closing move. -/
def cutStretch (order : Nat → Move) (close : Nat → Nat → Nat) (n : Nat) : List Move :=
  (List.range' (cutAt close n) (close n (cutAt close n) - cutAt close n)).map order

section
variable {order : Nat → Move} {close : Nat → Nat → Nat} (hle : ∀ n p, p ≤ close n p)
  (hclose : ∀ n p, order (close n p) = closingMove n)
include hle hclose

/-- The stretches cut from an order, put together again, are its beginning. -/
theorem fairPrefix_cutStretch (n : Nat) :
    fairPrefix (cutStretch order close) n = (List.range (cutAt close n)).map order := by
  induction n with
  | zero => rfl
  | succ n ih =>
    have hcut := hle n (cutAt close n)
    have hsplit : List.range (close n (cutAt close n)) =
        List.range (cutAt close n) ++ List.range' (cutAt close n) (close n (cutAt close n) - cutAt close n) := by
      have happend := List.range'_append_1 (s := 0) (m := cutAt close n) (n := close n (cutAt close n) - cutAt close n)
      rw [Nat.zero_add, Nat.add_sub_cancel' hcut] at happend
      rw [List.range_eq_range', List.range_eq_range', happend]
    rw [fairPrefix_succ, ih, cutStretch, cutAt, List.range_succ, hsplit, ← hclose n (cutAt close n)]
    simp

theorem fairMove_cutStretch (n : Nat) : fairMove (cutStretch order close) n = order n := by
  have hlen := le_length_fairPrefix (cutStretch order close) (n + 1)
  refine fairMove_of_getElem? (k := n + 1) ?_
  rw [fairPrefix_cutStretch hle hclose, List.length_map, List.length_range] at hlen
  rw [fairPrefix_cutStretch hle hclose, List.getElem?_map, List.getElem?_range hlen]
  rfl

end

theorem FairOrder.exists_closing {order : Nat → Move} (h : FairOrder order) (n p : Nat) :
    ∃ q, p ≤ q ∧ order q = closingMove n := by
  unfold closingMove
  split
  · exact h.1 p
  · exact h.2 p

/-- Settles O55: a free order closes its stretches with T and F in turn, and a fair order can be cut so. -/
theorem fairOrdersAreExactlyTheFreeOrders : Obligations.FairOrdersAreExactlyTheFreeOrders := by
  intro order
  refine ⟨fun h => ?cut, ?free⟩
  case cut =>
    choose close hle hclose using h.exists_closing
    exact ⟨cutStretch order close, fairMove_cutStretch hle hclose⟩
  case free =>
    rintro ⟨stretch, heq⟩
    rw [← show fairMove stretch = order from funext heq]
    exact fairOrder_fairMove stretch

/-! ## The moves of a run -/

theorem afterMove_agenda (s : State) : s.afterMove.agenda = s.agenda.tail := by
  unfold State.afterMove
  split <;> simp [*]

theorem afterMove_freeMoves (s : State) : s.afterMove.freeMoves = s.freeMoves + (1 - s.agenda.length) := by
  unfold State.afterMove
  split <;> simp [*]

/-- A run uses up the agenda, and then draws one free move a step (log 1). -/
theorem run_moves {k : Nat} {s t : State} (h : Host.Core.run Sys2Proof.core k s = .next t) :
    t.agenda = s.agenda.drop k ∧ t.freeMoves = s.freeMoves + (k - s.agenda.length) := by
  induction k generalizing s with
  | zero => cases h; simp
  | succ k ih =>
    obtain ⟨u, hstep, hrun⟩ := run_succ_next h
    obtain ⟨hagenda, hfree⟩ := runMove_keeps_moves hstep
    obtain ⟨ha, hf⟩ := ih hrun
    rw [hagenda, afterMove_agenda] at ha hf
    rw [hfree, afterMove_freeMoves, List.length_tail] at hf
    exact ⟨by rw [ha, List.drop_tail], by omega⟩

/-- From a sound state every run answers, with a sound state. -/
theorem State.Inv.run {s : State} (h : s.Inv) (k : Nat) :
    ∃ t, Host.Core.run Sys2Proof.core k s = .next t ∧ t.Inv := by
  induction k generalizing s with
  | zero => exact ⟨s, rfl, h⟩
  | succ k ih =>
    obtain ⟨u, hstep⟩ := noInputStopsTheMachine s h
    obtain ⟨t, hrun, ht⟩ := ih (everyStepKeepsTheInvariant s u h hstep)
    exact ⟨t, (run_succ_of_next hstep).trans hrun, ht⟩

/-- A move that comes again and again in the free order comes again and again in the run from a sound state. -/
theorem State.Inv.exists_run_nextMove {s : State} (h : s.Inv) {m : Move}
    (hm : ∀ n, ∃ k, n ≤ k ∧ fairMove Config.stretch k = m) (n : Nat) :
    ∃ k t, n ≤ k ∧ Host.Core.run Sys2Proof.core k s = .next t ∧ t.Inv ∧ t.nextMove = m := by
  obtain ⟨p, hp, hmove⟩ := hm (s.freeMoves + n)
  obtain ⟨t, hrun, ht⟩ := h.run (s.agenda.length + (p - s.freeMoves))
  obtain ⟨hagenda, hfree⟩ := run_moves hrun
  have hp' : t.freeMoves = p := by omega
  have hnil : t.agenda = [] := by rw [hagenda]; exact List.drop_eq_nil_of_le (by omega)
  exact ⟨_, t, by omega, hrun, ht, by simpa only [State.nextMove, hnil, hp'] using hmove⟩

/-- Settles O53. -/
theorem tickStepsInfinitelyOften : Obligations.TickStepsInfinitelyOften := by
  refine ⟨fun s => ⟨_, rfl⟩, fun s h n => ?_⟩
  obtain ⟨k, t, hk, hrun, -, hmove⟩ := h.exists_run_nextMove (fairOrder_fairMove Config.stretch).1 n
  exact ⟨k, t, hk, hrun, hmove⟩

/-- Settles O54: at F's turn the step answers (O49), and what F does in it is the update or the head event. -/
theorem enabledForegroundStepIsTaken : Obligations.EnabledForegroundStepIsTaken := by
  intro s h n
  obtain ⟨k, t, hk, hrun, ht, hmove⟩ := h.exists_run_nextMove (fairOrder_fairMove Config.stretch).2 n
  refine ⟨k, t, hk, hrun, hmove, fun henabled => ?_⟩
  obtain ⟨u, hstep⟩ := noInputStopsTheMachine t ht
  refine ⟨u, hstep, ?_⟩
  obtain ⟨hrxq, ⟨hempty, hdue⟩ | ⟨hf, hdue, hdone⟩⟩ | htaken := (stepEffect hstep).foreground_rxq hmove
  · exact absurd henabled (not_or.mpr ⟨hdue, not_not.mpr hempty⟩)
  · exact .inl ⟨hf, hdue, hdone, hrxq⟩
  · exact .inr htaken

end Sys2Proof.Machine
end
